-- ==== Sys2Proof/Word.lean ====
section
/-! DEFINITION. The word types of the block: bytes of the buffers, 16-bit checksums, 32-bit registers and
command words (10_state.md R20, 30_encoding.md R80). Everything is unsigned (00_scope.md R11). -/

namespace Sys2Proof

/-- A byte of `FB` or `PB`, and the width of `PLEN`, `SLICE_LEN` and `STATUS` (10_state.md R20). -/
abbrev Byte := BitVec 8

/-- A checksum: "a 2-byte result" (10_state.md R29). -/
abbrev Half := BitVec 16

/-- A 32-bit register, a command word, the value of a Read32 or Write32 (20_memory.md R51). -/
abbrev Word := BitVec 32

end Sys2Proof
end

