-- ==== Sys2Proof/Config.lean ====
section
/-! DEFINITION. What is fixed when a block instance is built: the parameters of 00_scope.md R4 to R8 and of
92_eei_decisions.md "Open parameters". The block has no free value: every value is fixed by a rule
(10_state.md R38, 93_implementation_defined.md section 4). -/

namespace Sys2Proof

/-- `BYTE_ORDER`: "whose only value in this spec is `little`" (20_memory.md R59). It cannot be switched, so
nothing reads it: the multi-byte operations of Machine/Ops.lean are little-endian. -/
inductive ByteOrder where
  | little
deriving DecidableEq, Repr

/-- The parameters of one block instance, "fixed per engine instance; no live reconfiguration"
(00_scope.md R4 to R6). Which values are legal is `Params.Legal` in WellFormed.lean. -/
structure Params where
  /-- `F`, the frame size in bytes (R4). -/
  frameSize : Nat
  /-- `MAXMSG`, the maximum message size in bytes (R6). -/
  maxMsg : Nat
  /-- `BYTE_ORDER` (20_memory.md R59). -/
  byteOrder : ByteOrder := .little
  /-- `BASE`, where the 1024-byte window stands in a larger system: "unused by every rule here"
  (20_memory.md R62). -/
  base : Nat := 0
deriving DecidableEq, Repr

/-- The instance `State.reset` is built for: `F = 128`, the example instance of 00_scope.md R8, with
`MAXMSG = 1024`, the value of program P5 of 95_test_vectors.md.
DESIGN CHOICE (log 1): the spec fixes neither; no statement rests on these numbers. -/
def Config.exampleParams : Params where
  frameSize := 128
  maxMsg := 1024

end Sys2Proof
end

