-- ==== Sys2Proof/Syntax.lean ====
section
/-! DEFINITION. The eleven commands of the block, one constructor per row of spec/opcode_table.json
(30_encoding.md R81). No command has an operand field (R80, R84). -/

namespace Sys2Proof

/-- The commands (30_encoding.md R81). -/
inductive Instr where
  /-- `NOP` (44_control.md R180). -/
  | nop
  /-- `CSUM` (40_checksum.md R103). -/
  | csum
  /-- `VERIFY` (40_checksum.md R104). -/
  | verify
  /-- `SEAL` (40_checksum.md R105). -/
  | sealFrame
  /-- `FMT_DATA` (41_format.md R120). -/
  | fmtData
  /-- `FMT_ACK` (41_format.md R121). -/
  | fmtAck
  /-- `PARSE_DATA` (42_parse.md R140). -/
  | parseData
  /-- `PARSE_ACK` (42_parse.md R141). -/
  | parseAck
  /-- `FRAG_COUNT` (43_fragment.md R162). -/
  | fragCount
  /-- `FRAG_SLICE` (43_fragment.md R163). -/
  | fragSlice
  /-- `CLEAR` (44_control.md R181). -/
  | clear
deriving DecidableEq, Repr

end Sys2Proof
end

