-- ==== Sys2Proof/WellFormed.lean ====
section
/-! DEFINITION. What a legal instance and a well-formed command are. -/

namespace Sys2Proof

/-- A legal instance: `15 <= F <= 266` (00_scope.md R4) and `0 <= MAXMSG <= 2^32 - 1` (R6). "An instance with
`F` outside the range is not a legal instance; a model refuses to build it." -/
abbrev Params.Legal (p : Params) : Prop :=
  15 ≤ p.frameSize ∧ p.frameSize ≤ 266 ∧ p.maxMsg ≤ 4294967295

/-- Every command is well formed: "No command has an immediate; each reads and writes fixed registers and
buffers" (30_encoding.md R84), so there is no operand to check. -/
def Instr.wf : Instr → Bool
  | .nop => true
  | .csum => true
  | .verify => true
  | .sealFrame => true
  | .fmtData => true
  | .fmtAck => true
  | .parseData => true
  | .parseAck => true
  | .fragCount => true
  | .fragSlice => true
  | .clear => true

end Sys2Proof
end

