-- ==== Sys2Proof/Decode.lean ====
section
/-! DEFINITION. The decoder of command words, total on all `2^32` words (30_encoding.md R83), and the encoder.
A command word is the value of one Write32 to `CMD`; it is stored in no memory (20_memory.md R58), so the
decoder takes the 32-bit value itself (log 12). -/

namespace Sys2Proof

/-- Why a word is no command (30_encoding.md R82): the two kinds of illegal word. -/
inductive DecodeReject where
  /-- `w[31:8] != 0`. -/
  | upperBitsNotZero
  /-- `OP` is not in the table of R81. -/
  | unassignedOpcode (op : Byte)
deriving DecidableEq, Repr

/-- `OP = w[7:0]` (30_encoding.md R80). -/
def opcodeOf (w : Word) : Byte := w.extractLsb' 0 8

/-- `w[31:8]`, which must be zero (30_encoding.md R80). -/
def upperOf (w : Word) : BitVec 24 := w.extractLsb' 8 24

/-- The opcode map of 30_encoding.md R81. -/
def decodeOpcode (op : Byte) : Option Instr :=
  match op.toNat with
  | 0x00 => some .nop
  | 0x01 => some .csum
  | 0x02 => some .verify
  | 0x03 => some .sealFrame
  | 0x10 => some .fmtData
  | 0x11 => some .fmtAck
  | 0x20 => some .parseData
  | 0x21 => some .parseAck
  | 0x30 => some .fragCount
  | 0x31 => some .fragSlice
  | 0xF0 => some .clear
  | _ => none

/-- The decoder: "every 32-bit word is either one of the eleven words of rule R81 or illegal by rule R82"
(30_encoding.md R83). -/
def decode (w : Word) : Except DecodeReject Instr :=
  if upperOf w = 0#24 then
    match decodeOpcode (opcodeOf w) with
    | some i => .ok i
    | none => .error (.unassignedOpcode (opcodeOf w))
  else .error .upperBitsNotZero

/-- The command word of each command: the `word` column of 30_encoding.md R81. -/
def encode : Instr → Word
  | .nop => 0x00000000#32
  | .csum => 0x00000001#32
  | .verify => 0x00000002#32
  | .sealFrame => 0x00000003#32
  | .fmtData => 0x00000010#32
  | .fmtAck => 0x00000011#32
  | .parseData => 0x00000020#32
  | .parseAck => 0x00000021#32
  | .fragCount => 0x00000030#32
  | .fragSlice => 0x00000031#32
  | .clear => 0x000000F0#32

/-- The command word whose low `nbits` bits are those of `w`, the bits above them 0, if it is 32 bits:
"Every command word is exactly 32 bits" (30_encoding.md R85). -/
def tableWord (nbits w : Nat) : Option Word :=
  if w % 2 ^ nbits < 2 ^ 32 then some (BitVec.ofNat 32 (w % 2 ^ nbits)) else none

/-- The command the decoder reads from the word whose bits are `w`, numbered as spec/opcode_table.json numbers
them (log 12); none for an illegal word. -/
def decodeTableWord (nbits w : Nat) : Option Instr :=
  match tableWord nbits w with
  | some word =>
    match decode word with
    | .ok i => some i
    | .error _ => none
  | none => none

end Sys2Proof
end

