-- ==== Sys2Proof/Machine/State.lean ====
section
/-! DEFINITION. The whole state of one block instance (10_state.md R20), what the outside sends it, and the
state after reset (70_reset_and_hazards.md R230). -/

namespace Sys2Proof.Machine

open Sys2Proof

/-- One host access: "The host has exactly four access kinds" (20_memory.md R51). The address counts from the
start of the block's window (log 7). -/
inductive Access where
  | read32 (addr : Nat)
  | write32 (addr : Nat) (value : Word)
  | read8 (addr : Nat)
  | write8 (addr : Nat) (value : Byte)
deriving DecidableEq, Repr

/-- What the outside world does to the block: the host's accesses (20_memory.md R51) and the integrating
system's reset (70_reset_and_hazards.md R230; log 10). -/
inductive Input where
  | access (a : Access)
  | reset
deriving DecidableEq, Repr

/-- What an access returns to the host: nothing, the 32 bits of a Read32 or the 8 bits of a Read8. -/
inductive Reply where
  | noData
  | word (value : Word)
  | byte (value : Byte)
deriving DecidableEq, Repr

/-- The error codes of 60_exceptions.md R201; codes 7 to 15 are never produced. -/
inductive ErrCode where
  | none
  | illegalCmd
  | badChecksum
  | malformed
  | plenRange
  | oversize
  | fragRange
deriving DecidableEq, Repr

/-- The registers of 10_state.md R20. -/
inductive Reg where
  | cmd
  | status
  | cfgF
  | cfgCap
  | cfgMaxMsg
  | csumResult
  | msgSeq
  | fragSeq
  | plen
  | totSize
  | msgLen
  | fragIdx
  | fragCnt
  | sliceOff
  | sliceLen
deriving DecidableEq, Repr

/-- `FB` and `PB`, byte by byte under their host addresses (20_memory.md R50): addresses strictly rising, no
byte equal to what an unlisted one reads as (`Memory.wf` in Machine/Ops.lean; log 8). -/
abbrev Memory := List Host.Cell

/-- The state of one instance: "The whole state of one block instance is: the frame buffer `FB` (F bytes), the
payload buffer `PB` (CAP bytes), and the registers" (10_state.md R20). `CMD` keeps no value (R26; log 9);
`CFG_F`, `CFG_CAP` and `CFG_MAXMSG` are views of `params` (R28). -/
@[ext]
structure State where
  /-- The instance's constants (00_scope.md R4 to R6; 10_state.md R28). -/
  params : Params
  /-- `FB` and `PB` (10_state.md R24, R25). -/
  mem : Memory
  /-- `STATUS[7:0]` (10_state.md R27); its fields are read and written in Machine/Flags.lean. -/
  status : BitVec 8
  /-- `CSUM_RESULT` (10_state.md R29). -/
  csumResult : Half
  /-- `MSGSEQ` (10_state.md R30). -/
  msgSeq : Word
  /-- `FRAGSEQ` (10_state.md R31). -/
  fragSeq : Word
  /-- `PLEN` (10_state.md R32). -/
  plen : Byte
  /-- `TOTSIZE` (10_state.md R33). -/
  totSize : Word
  /-- `MSGLEN` (10_state.md R34). -/
  msgLen : Word
  /-- `FRAGIDX` (10_state.md R35). -/
  fragIdx : Word
  /-- `FRAGCNT` (10_state.md R36). -/
  fragCnt : Word
  /-- `SLICE_OFF` (10_state.md R37). -/
  sliceOff : Word
  /-- `SLICE_LEN` (10_state.md R37). -/
  sliceLen : Byte
  /-- The MODEL's own: the inputs still to come, in the order the outside issues them (20_memory.md R56; log 3). -/
  pending : List Input
  /-- The MODEL's own: what the last input returned to the host (log 5). -/
  reply : Reply
deriving DecidableEq, Repr

/-- The block has no fault: "No behaviour of the block is `fault` or `stuck`" (93_implementation_defined.md
section 4; 60_exceptions.md R200). Nothing raises one, so the type is empty (log 13). -/
inductive Fault where
deriving DecidableEq, Repr

/-- Why the model gives no meaning. -/
inductive Refusal where
  /-- Raised by `exec` for a command that has no meaning in the model yet: safe. No arm uses it. -/
  | notModelled (mnemonic : String)
  /-- Raised by `step` where the parameters are those of no legal instance: "An instance with `F` outside the
  range is not a legal instance; a model refuses to build it" (00_scope.md R4, R6): safe (log 2). -/
  | illegalInstance
deriving DecidableEq, Repr

/-- The state of instance `p` after reset: "every byte of `FB` and `PB` is 0, every register of rule R20 except
`CFG_F`, `CFG_CAP` and `CFG_MAXMSG` is 0, and those three hold their parameters" (10_state.md R38). -/
def State.resetOf (p : Params) : State where
  params := p
  mem := []
  status := 0#8
  csumResult := 0#16
  msgSeq := 0#32
  fragSeq := 0#32
  plen := 0#8
  totSize := 0#32
  msgLen := 0#32
  fragIdx := 0#32
  fragCnt := 0#32
  sliceOff := 0#32
  sliceLen := 0#8
  pending := []
  reply := .noData

/-- The machine right after reset: the example instance (log 1) with nothing pending. -/
def State.reset : State := State.resetOf Config.exampleParams

end Sys2Proof.Machine
end

