-- ==== Sys2Proof/Machine/Flags.lean ====
section
/-! DEFINITION. The fields of `STATUS` (10_state.md R27) and the error codes (60_exceptions.md R201). -/

namespace Sys2Proof.Machine

open Sys2Proof

/-- The code of each error, "written to `STATUS.ERR`" (60_exceptions.md R201). -/
def ErrCode.code : ErrCode → BitVec 4
  | .none => 0#4
  | .illegalCmd => 1#4
  | .badChecksum => 2#4
  | .malformed => 3#4
  | .plenRange => 4#4
  | .oversize => 5#4
  | .fragRange => 6#4

/-- `STATUS.CK_OK`, bit 0. -/
def State.ckOk (s : State) : Bool := s.status.getLsbD 0

/-- `STATUS.HAS_TOTAL`, bit 1. -/
def State.hasTotal (s : State) : Bool := s.status.getLsbD 1

/-- `STATUS[3:2]`, reserved: "read 0", written never. -/
def State.statusReserved (s : State) : BitVec 2 := s.status.extractLsb' 2 2

/-- `STATUS.ERR`, bits 7:4. -/
def State.err (s : State) : BitVec 4 := s.status.extractLsb' 4 4

/-- `STATUS.CK_OK <- b`, the other fields unchanged. -/
def State.setCkOk (s : State) (b : Bool) : State :=
  { s with status := s.status.extractLsb' 1 7 ++ BitVec.ofBool b }

/-- `STATUS.HAS_TOTAL <- b`, the other fields unchanged. -/
def State.setHasTotal (s : State) (b : Bool) : State :=
  { s with status := s.status.extractLsb' 2 6 ++ BitVec.ofBool b ++ s.status.extractLsb' 0 1 }

/-- `STATUS.ERR <- c`, the other fields unchanged. -/
def State.setErr (s : State) (c : ErrCode) : State :=
  { s with status := c.code ++ s.status.extractLsb' 0 4 }

end Sys2Proof.Machine
end

