-- ==== Sys2Proof/Machine/Ops.lean ====
section
/-! DEFINITION. The named operations over the buffers, and the one operation by which a command raises an
error (00_scope.md R13, R14; 20_memory.md R50, R59). -/

namespace Sys2Proof.Machine

open Sys2Proof

/-- Where the PB window starts (20_memory.md R50). -/
def pbBase : Nat := 0x100

/-- Where the FB window starts (20_memory.md R50). -/
def fbBase : Nat := 0x200

/-- What a byte that is not listed reads as: "every byte of `FB` and `PB` is 0" after reset (10_state.md R38). -/
def Memory.unlisted : Byte := 0#8

/-- The canonical form: addresses strictly rising, no listed byte equal to what an unlisted one reads as, so
that equal memories are equal lists (log 8). -/
abbrev Memory.wf (m : Memory) : Prop :=
  m.Pairwise (fun c d => c.1 < d.1) ∧ ∀ c ∈ m, c.2 ≠ Memory.unlisted

/-- The byte at address `a`. -/
def Memory.read : Memory → Nat → Byte
  | [], _ => Memory.unlisted
  | (k, v) :: rest, a => if k = a then v else Memory.read rest a

/-- The list with `(a, b)` put before the first greater address. -/
def Memory.insert : Memory → Nat → Byte → Memory
  | [], a, b => [(a, b)]
  | (k, v) :: rest, a, b => if a < k then (a, b) :: (k, v) :: rest else (k, v) :: Memory.insert rest a b

/-- The list without an entry for `a`. -/
def Memory.erase : Memory → Nat → Memory
  | [], _ => []
  | (k, v) :: rest, a => if k = a then Memory.erase rest a else (k, v) :: Memory.erase rest a

/-- Write byte `b` at address `a`; writing what an unlisted byte reads as removes the entry. -/
def Memory.write (m : Memory) (a : Nat) (b : Byte) : Memory :=
  if b = Memory.unlisted then m.erase a else (m.erase a).insert a b

/-- Write `f 0` to `f (n - 1)` at the `n` addresses from `base` on, in ascending order: the loops
`for i in 0 .. n-1` of the pseudocode. -/
def Memory.writeRun (m : Memory) (base : Nat) (f : Nat → Byte) : Nat → Memory
  | 0 => m
  | n + 1 => (Memory.writeRun m base f n).write (base + n) (f n)

/-- `CAP = F - 11` (00_scope.md R5). -/
def State.capacity (s : State) : Nat := s.params.frameSize - 11

/-- `FB[i]` for `i < F`; a byte at or beyond `F` reads 0 (20_memory.md R53). -/
def State.fb (s : State) (i : Nat) : Byte :=
  if i < s.params.frameSize then s.mem.read (fbBase + i) else 0#8

/-- `PB[j]` for `j < CAP`; a byte at or beyond `CAP` reads 0 (20_memory.md R53). -/
def State.pb (s : State) (j : Nat) : Byte :=
  if j < s.capacity then s.mem.read (pbBase + j) else 0#8

/-- `FB[i] <- b` for `i < F`; nothing otherwise (20_memory.md R53). -/
def State.setFb (s : State) (i : Nat) (b : Byte) : State :=
  if i < s.params.frameSize then { s with mem := s.mem.write (fbBase + i) b } else s

/-- `PB[j] <- b` for `j < CAP`; nothing otherwise (20_memory.md R53). -/
def State.setPb (s : State) (j : Nat) (b : Byte) : State :=
  if j < s.capacity then { s with mem := s.mem.write (pbBase + j) b } else s

/-- `LE16(FB, a)` (00_scope.md R13): the byte at the lower offset is the less significant (20_memory.md R59). -/
def State.le16 (s : State) (a : Nat) : Half := s.fb (a + 1) ++ s.fb a

/-- `LE32(FB, a)` (00_scope.md R13). -/
def State.le32 (s : State) (a : Nat) : Word := s.fb (a + 3) ++ s.fb (a + 2) ++ s.fb (a + 1) ++ s.fb a

/-- `putLE16(FB, a, v)` (00_scope.md R13). -/
def State.putLE16 (s : State) (a : Nat) (v : Half) : State :=
  (s.setFb a (v.extractLsb' 0 8)).setFb (a + 1) (v.extractLsb' 8 8)

/-- `putLE32(FB, a, v)` (00_scope.md R13). -/
def State.putLE32 (s : State) (a : Nat) (v : Word) : State :=
  (((s.setFb a (v.extractLsb' 0 8)).setFb (a + 1) (v.extractLsb' 8 8)).setFb (a + 2)
    (v.extractLsb' 16 8)).setFb (a + 3) (v.extractLsb' 24 8)

/-- `for i in 0 .. n-1: FB[start + i] <- f i` (41_format.md R120). -/
def State.fillFb (s : State) (start : Nat) (f : Nat → Byte) (n : Nat) : State :=
  { s with mem := s.mem.writeRun (fbBase + start) f n }

/-- `for j in 0 .. CAP-1: PB[j] <- f j` (42_parse.md R140, 44_control.md R181). -/
def State.fillPb (s : State) (f : Nat → Byte) : State :=
  { s with mem := s.mem.writeRun pbBase f s.capacity }

/-- `raise Error(code)`: "write `STATUS.ERR <- code`, perform the writes the rule lists as happening before the
check, and end the command; nothing else changes. There is no trap, no interrupt and no change of control"
(00_scope.md R14, 60_exceptions.md R200). The writes before the check are in the state it is applied to.
There is no return operation: the block saves nothing (60_exceptions.md R200). -/
def State.raiseError (s : State) (c : ErrCode) : State := s.setErr c

/-- The end of a command without `raise`: `STATUS.ERR <- NONE` (00_scope.md R14). -/
def State.complete (s : State) : State := s.setErr .none

/-- What an illegal command word does: "the block writes `STATUS.ERR <- ILLEGAL_CMD` and changes nothing else"
(30_encoding.md R82). -/
def State.rejectWord (s : State) : State := s.raiseError .illegalCmd

/-- The reset of the block (70_reset_and_hazards.md R230): every register and buffer takes its reset value; the
inputs still to come stay, and no data is returned (log 10). -/
def State.assertReset (s : State) : State := { State.resetOf s.params with pending := s.pending }

end Sys2Proof.Machine
end

