-- ==== Sys2Proof/Machine/Access.lean ====
section
/-! DEFINITION. The host's address space: what each access reads and writes (20_memory.md R50 to R54;
10_state.md R20, R26 to R37). A write to `CMD` is the start of a command and is in Machine/Command.lean. -/

namespace Sys2Proof.Machine

open Sys2Proof

/-- The offset of each register (10_state.md R20). -/
def Reg.offset : Reg → Nat
  | .cmd => 0x000
  | .status => 0x004
  | .cfgF => 0x008
  | .cfgCap => 0x00C
  | .cfgMaxMsg => 0x010
  | .csumResult => 0x014
  | .msgSeq => 0x018
  | .fragSeq => 0x01C
  | .plen => 0x020
  | .totSize => 0x024
  | .msgLen => 0x028
  | .fragIdx => 0x02C
  | .fragCnt => 0x030
  | .sliceOff => 0x034
  | .sliceLen => 0x038

/-- The register a 32-bit access at `addr` reaches; none at a reserved offset or at an address that is not a
multiple of 4 (20_memory.md R52). -/
def regAt (addr : Nat) : Option Reg :=
  match addr with
  | 0x000 => some .cmd
  | 0x004 => some .status
  | 0x008 => some .cfgF
  | 0x00C => some .cfgCap
  | 0x010 => some .cfgMaxMsg
  | 0x014 => some .csumResult
  | 0x018 => some .msgSeq
  | 0x01C => some .fragSeq
  | 0x020 => some .plen
  | 0x024 => some .totSize
  | 0x028 => some .msgLen
  | 0x02C => some .fragIdx
  | 0x030 => some .fragCnt
  | 0x034 => some .sliceOff
  | 0x038 => some .sliceLen
  | _ => none

/-- What a host read of a register returns; the bits above its width read 0 (10_state.md R20, R26 to R37). -/
def State.readReg (s : State) : Reg → Word
  | .cmd => 0#32
  | .status => s.status.setWidth 32
  | .cfgF => BitVec.ofNat 32 s.params.frameSize
  | .cfgCap => BitVec.ofNat 32 s.capacity
  | .cfgMaxMsg => BitVec.ofNat 32 s.params.maxMsg
  | .csumResult => s.csumResult.setWidth 32
  | .msgSeq => s.msgSeq
  | .fragSeq => s.fragSeq
  | .plen => s.plen.setWidth 32
  | .totSize => s.totSize
  | .msgLen => s.msgLen
  | .fragIdx => s.fragIdx
  | .fragCnt => s.fragCnt
  | .sliceOff => s.sliceOff
  | .sliceLen => s.sliceLen.setWidth 32

/-- What a host write to a register other than `CMD` does: read-only registers ignore it, `PLEN` keeps the low 8
bits (10_state.md R27 to R37). -/
def State.writeReg (s : State) (r : Reg) (v : Word) : State :=
  match r with
  | .cmd => s
  | .status => s
  | .cfgF => s
  | .cfgCap => s
  | .cfgMaxMsg => s
  | .csumResult => s
  | .msgSeq => { s with msgSeq := v }
  | .fragSeq => { s with fragSeq := v }
  | .plen => { s with plen := v.extractLsb' 0 8 }
  | .totSize => { s with totSize := v }
  | .msgLen => { s with msgLen := v }
  | .fragIdx => { s with fragIdx := v }
  | .fragCnt => s
  | .sliceOff => s
  | .sliceLen => s

/-- "A host address at or above 0x400 does not select the block" (20_memory.md R50). -/
def selects (addr : Nat) : Bool := decide (addr < 0x400)

/-- `Read32(addr)` at a selecting address: a register, or 0 (20_memory.md R52, R53). -/
def State.read32 (s : State) (addr : Nat) : Word :=
  match regAt addr with
  | some r => s.readReg r
  | none => 0#32

/-- `Write32(addr, v)` at an address other than that of `CMD`: a register, or nothing (20_memory.md R52, R53). -/
def State.write32 (s : State) (addr : Nat) (v : Word) : State :=
  match regAt addr with
  | some r => s.writeReg r v
  | none => s

/-- `Read8(addr)` at a selecting address: a byte of the PB or FB window, 0 in the register region
(20_memory.md R52, R53). -/
def State.read8 (s : State) (addr : Nat) : Byte :=
  if addr < pbBase then 0#8
  else if addr < fbBase then s.pb (addr - pbBase)
  else s.fb (addr - fbBase)

/-- `Write8(addr, b)` at a selecting address: a byte of the PB or FB window, nothing in the register region
(20_memory.md R52, R53). -/
def State.write8 (s : State) (addr : Nat) (b : Byte) : State :=
  if addr < pbBase then s
  else if addr < fbBase then s.setPb (addr - pbBase) b
  else s.setFb (addr - fbBase) b

/-- What the last input returned to the host (log 5). -/
def State.answer (s : State) (r : Reply) : State := { s with reply := r }

/-- The next input is put before those still to come (log 3). -/
def State.post (s : State) (i : Input) : State := { s with pending := i :: s.pending }

/-- The host's next access is the Write32 to `CMD` of the word `w` (30_encoding.md R80). -/
def State.postCommand (s : State) (w : Word) : State := s.post (.access (.write32 Reg.cmd.offset w))

end Sys2Proof.Machine
end

