-- ==== Sys2Proof/Machine/Operands.lean ====
section
/-! DEFINITION. The operands of the commands: the fields of a frame at their offsets (30_encoding.md R70), and
the capacity and payload offset that the fragment sequence number selects (00_scope.md R15). -/

namespace Sys2Proof.Machine

open Sys2Proof

/-- `cap(s)`: "`cap(s) = CAP - 4` if `s = 0`, else `CAP`" (00_scope.md R15). -/
def State.capOf (s : State) (seq : Word) : Nat :=
  if seq = 0#32 then s.capacity - 4 else s.capacity

/-- `po(s)`: "`po(s) = 15` if `s = 0`, else `11`" (00_scope.md R15). -/
def payloadOffset (seq : Word) : Nat := if seq = 0#32 then 15 else 11

/-- The stored checksum: `stored(FB) = LE16(FB, 0)` (40_checksum.md R101). -/
def State.stored (s : State) : Half := s.le16 0

/-- The message sequence number field, offset 2 (30_encoding.md R70). -/
def State.frameMsgSeq (s : State) : Word := s.le32 2

/-- The fragment sequence number field, offset 6 (30_encoding.md R70). -/
def State.frameFragSeq (s : State) : Word := s.le32 6

/-- The payload length field, offset 10 (30_encoding.md R70). -/
def State.framePlen (s : State) : Byte := s.fb 10

/-- The total message size field, offset 11, of a fragment-0 data frame (30_encoding.md R70, R71). -/
def State.frameTotSize (s : State) : Word := s.le32 11

end Sys2Proof.Machine
end

