-- ==== Sys2Proof/Machine/Checksum.lean ====
section
/-! DEFINITION. The checksum function and the commands CSUM, VERIFY and SEAL (40_checksum.md R100 to R105). -/

namespace Sys2Proof.Machine

open Sys2Proof

/-- `w_i = lo + 256 * hi`, the `i`-th little-endian word of the covered region `FB[2..F-1]`; "odd L: last byte
is zero-extended" (40_checksum.md R100). -/
def State.coveredWord (s : State) (i : Nat) : Nat :=
  (s.fb (2 + 2 * i)).toNat
    + 256 * (if 3 + 2 * i ≤ s.params.frameSize - 1 then (s.fb (3 + 2 * i)).toNat else 0)

/-- `w_0 + w_1 + ... + w_{n-1}`, exact (40_checksum.md R100, 00_scope.md R12). -/
def State.sumWords (s : State) : Nat → Nat
  | 0 => 0
  | n + 1 => s.sumWords n + s.coveredWord n

/-- `n = ceil(L / 2)` with `L = F - 2` (40_checksum.md R100). -/
def State.wordCount (s : State) : Nat := (s.params.frameSize - 2 + 1) / 2

/-- `csum(FB)`: the sum modulo 2^16, with no complement and no end-around carry (40_checksum.md R100). -/
def State.csum (s : State) : Half := BitVec.ofNat 16 (s.sumWords s.wordCount)

/-- `valid(FB) = (csum(FB) = stored(FB))` (40_checksum.md R102). -/
def State.frameValid (s : State) : Bool := s.csum == s.stored

/-- `CSUM_RESULT <- csum(FB)` (40_checksum.md R103). -/
def State.recordCsum (s : State) : State := { s with csumResult := s.csum }

/-- `c <- csum(FB); putLE16(FB, 0, c); CSUM_RESULT <- c` (40_checksum.md R105, 41_format.md R120, R121). -/
def State.sealFrame (s : State) : State := { s.putLE16 0 s.csum with csumResult := s.csum }

/-- `CSUM` (40_checksum.md R103). -/
def execCsum (s : State) : Host.Outcome State Fault Refusal :=
  .next s.recordCsum.complete

/-- `VERIFY` (40_checksum.md R104). -/
def execVerify (s : State) : Host.Outcome State Fault Refusal :=
  if s.frameValid then .next (s.recordCsum.setCkOk true).complete
  else .next ((s.recordCsum.setCkOk false).raiseError .badChecksum)

/-- `SEAL` (40_checksum.md R105). -/
def execSeal (s : State) : Host.Outcome State Fault Refusal :=
  .next s.sealFrame.complete

end Sys2Proof.Machine
end

