-- ==== Sys2Proof/Machine/Control.lean ====
section
/-! DEFINITION. The commands NOP and CLEAR (44_control.md R180, R181). -/

namespace Sys2Proof.Machine

open Sys2Proof

/-- `FB[i] <- 0` for every `i < F` and `PB[j] <- 0` for every `j < CAP` (44_control.md R181). -/
def State.zeroBuffers (s : State) : State :=
  (s.fillFb 0 (fun _ => 0#8) s.params.frameSize).fillPb (fun _ => 0#8)

/-- The registers CLEAR writes, each to 0 (44_control.md R181). -/
def State.zeroRegisters (s : State) : State :=
  { s with
    csumResult := 0#16, msgSeq := 0#32, fragSeq := 0#32, plen := 0#8, totSize := 0#32
    msgLen := 0#32, fragIdx := 0#32, fragCnt := 0#32, sliceOff := 0#32, sliceLen := 0#8 }

/-- `NOP` (44_control.md R180). -/
def execNop (s : State) : Host.Outcome State Fault Refusal :=
  .next s.complete

/-- `CLEAR` (44_control.md R181). -/
def execClear (s : State) : Host.Outcome State Fault Refusal :=
  .next (((s.zeroBuffers.zeroRegisters).setCkOk false).setHasTotal false).complete

end Sys2Proof.Machine
end

