-- ==== Sys2Proof/Machine/Format.lean ====
section
/-! DEFINITION. The formatter: FMT_DATA and FMT_ACK (41_format.md R120, R121). -/

namespace Sys2Proof.Machine

open Sys2Proof

/-- The part both formatters share: `FB` all 0, then the two sequence numbers and the payload length byte
(41_format.md R120, R121). -/
def State.putHeader (s : State) (len : Byte) : State :=
  (((s.fillFb 0 (fun _ => 0#8) s.params.frameSize).putLE32 2 s.msgSeq).putLE32 6 s.fragSeq).setFb 10 len

/-- `if FRAGSEQ = 0: putLE32(FB, 11, TOTSIZE)` (41_format.md R120; 30_encoding.md R71). -/
def State.putTotal (s : State) : State :=
  if s.fragSeq = 0#32 then s.putLE32 11 s.totSize else s

/-- `for j in 0 .. PLEN-1: FB[po(FRAGSEQ) + j] <- PB[j]` (41_format.md R120). -/
def State.putPayload (s : State) : State :=
  s.fillFb (payloadOffset s.fragSeq) s.pb s.plen.toNat

/-- The data frame before its checksum is put in (41_format.md R120). -/
def State.dataBody (s : State) : State := (s.putHeader s.plen).putTotal.putPayload

/-- `FMT_DATA` (41_format.md R120). -/
def execFmtData (s : State) : Host.Outcome State Fault Refusal :=
  if s.capOf s.fragSeq < s.plen.toNat then .next (s.raiseError .plenRange)
  else .next s.dataBody.sealFrame.complete

/-- `FMT_ACK` (41_format.md R121). -/
def execFmtAck (s : State) : Host.Outcome State Fault Refusal :=
  .next (s.putHeader 0#8).sealFrame.complete

end Sys2Proof.Machine
end

