-- ==== Sys2Proof/Machine/Fragment.lean ====
section
/-! DEFINITION. The fragment arithmetic and the commands FRAG_COUNT and FRAG_SLICE (43_fragment.md R160 to
R163). -/

namespace Sys2Proof.Machine

open Sys2Proof

/-- `count(n) = floor((n + 4 + CAP - 1) / CAP)`, exact on naturals (43_fragment.md R160). -/
def State.countOf (s : State) (n : Nat) : Nat := (n + 4 + s.capacity - 1) / s.capacity

/-- `off(n, 0) = 0`, `off(n, k) = k * CAP - 4` for `k >= 1` (43_fragment.md R161). -/
def State.offOf (s : State) (k : Nat) : Nat := if k = 0 then 0 else k * s.capacity - 4

/-- `len(n, 0) = min(n, CAP - 4)`, `len(n, k) = min(CAP, n - off(n, k))` for `k >= 1` (43_fragment.md R161). -/
def State.lenOf (s : State) (n k : Nat) : Nat :=
  if k = 0 then min n (s.capacity - 4) else min s.capacity (n - s.offOf k)

/-- `MSGLEN > MAXMSG` (43_fragment.md R162, R163). -/
def State.oversize (s : State) : Bool := decide (s.params.maxMsg < s.msgLen.toNat)

/-- `FRAGCNT <- count(MSGLEN)` (43_fragment.md R162, R163). -/
def State.recordCount (s : State) : State :=
  { s with fragCnt := BitVec.ofNat 32 (s.countOf s.msgLen.toNat) }

/-- `SLICE_OFF <- off(MSGLEN, FRAGIDX); SLICE_LEN <- len(MSGLEN, FRAGIDX)` (43_fragment.md R163). -/
def State.recordSlice (s : State) : State :=
  { s with
    sliceOff := BitVec.ofNat 32 (s.offOf s.fragIdx.toNat)
    sliceLen := BitVec.ofNat 8 (s.lenOf s.msgLen.toNat s.fragIdx.toNat) }

/-- `FRAG_COUNT` (43_fragment.md R162). -/
def execFragCount (s : State) : Host.Outcome State Fault Refusal :=
  if s.oversize then .next (s.raiseError .oversize)
  else .next s.recordCount.complete

/-- `FRAG_SLICE` (43_fragment.md R163). -/
def execFragSlice (s : State) : Host.Outcome State Fault Refusal :=
  if s.oversize then .next (s.raiseError .oversize)
  else if s.countOf s.msgLen.toNat ≤ s.fragIdx.toNat then .next (s.recordCount.raiseError .fragRange)
  else .next s.recordCount.recordSlice.complete

end Sys2Proof.Machine
end

