-- ==== Sys2Proof/Machine/Parse.lean ====
section
/-! DEFINITION. The parser: PARSE_DATA and PARSE_ACK (42_parse.md R140, R141). -/

namespace Sys2Proof.Machine

open Sys2Proof

/-- `MSGSEQ <- LE32(FB, 2); FRAGSEQ <- LE32(FB, 6); PLEN <- FB[10]` (42_parse.md R140, R141). -/
def State.loadHeader (s : State) : State :=
  { s with msgSeq := s.frameMsgSeq, fragSeq := s.frameFragSeq, plen := s.framePlen }

/-- `if FRAGSEQ = 0: TOTSIZE <- LE32(FB, 11); HAS_TOTAL <- 1 else: HAS_TOTAL <- 0` (42_parse.md R140). -/
def State.loadTotal (s : State) : State :=
  if s.fragSeq = 0#32 then ({ s with totSize := s.frameTotSize }).setHasTotal true
  else s.setHasTotal false

/-- `for j in 0 .. CAP-1: PB[j] <- FB[po(FRAGSEQ) + j] if j < PLEN else 0` (42_parse.md R140). -/
def State.loadPayload (s : State) : State :=
  s.fillPb (fun j => if j < s.plen.toNat then s.fb (payloadOffset s.fragSeq + j) else 0#8)

/-- What PARSE_DATA has written once the checksum is valid, before it checks the payload length: `CSUM_RESULT`,
`CK_OK <- 1`, the header registers, `TOTSIZE` and `HAS_TOTAL` (42_parse.md R140; 60_exceptions.md R203). -/
def State.parsedData (s : State) : State := (s.recordCsum.setCkOk true).loadHeader.loadTotal

/-- What PARSE_ACK has written once the checksum is valid, before it checks the payload length: `CSUM_RESULT`,
`HAS_TOTAL <- 0`, `CK_OK <- 1` and the header registers (42_parse.md R141; 60_exceptions.md R203). -/
def State.parsedAck (s : State) : State := ((s.recordCsum.setHasTotal false).setCkOk true).loadHeader

/-- `PARSE_DATA` (42_parse.md R140). -/
def execParseData (s : State) : Host.Outcome State Fault Refusal :=
  if s.frameValid then
    if s.parsedData.capOf s.parsedData.fragSeq < s.parsedData.plen.toNat then
      .next (s.parsedData.raiseError .malformed)
    else .next s.parsedData.loadPayload.complete
  else .next (((s.recordCsum.setCkOk false).setHasTotal false).raiseError .badChecksum)

/-- `PARSE_ACK` (42_parse.md R141). -/
def execParseAck (s : State) : Host.Outcome State Fault Refusal :=
  if s.frameValid then
    if s.parsedAck.plen = 0#8 then .next s.parsedAck.complete else .next (s.parsedAck.raiseError .malformed)
  else .next (((s.recordCsum.setHasTotal false).setCkOk false).raiseError .badChecksum)

end Sys2Proof.Machine
end

