-- ==== Sys2Proof/Machine/Dispatch.lean ====
section
/-! DEFINITION. One arm per command (30_encoding.md R81). -/

namespace Sys2Proof.Machine

/-- What each command does (30_encoding.md R81, R84). -/
def exec (i : Instr) (s : State) : Host.Outcome State Fault Refusal :=
  match i with
  | .nop => Sys2Proof.Machine.execNop s
  | .csum => Sys2Proof.Machine.execCsum s
  | .verify => Sys2Proof.Machine.execVerify s
  | .sealFrame => Sys2Proof.Machine.execSeal s
  | .fmtData => Sys2Proof.Machine.execFmtData s
  | .fmtAck => Sys2Proof.Machine.execFmtAck s
  | .parseData => Sys2Proof.Machine.execParseData s
  | .parseAck => Sys2Proof.Machine.execParseAck s
  | .fragCount => Sys2Proof.Machine.execFragCount s
  | .fragSlice => Sys2Proof.Machine.execFragSlice s
  | .clear => Sys2Proof.Machine.execClear s

end Sys2Proof.Machine
end

