-- ==== Sys2Proof/Machine/Command.lean ====
section
/-! DEFINITION. One host access and one input: what a step does with the input it takes (00_scope.md R9, R10;
20_memory.md R51 to R54; 70_reset_and_hazards.md R230). -/

namespace Sys2Proof.Machine

open Sys2Proof

/-- A host write of `w` to `CMD`: it "starts the command that `w` encodes" (10_state.md R26) or is illegal
(30_encoding.md R82). -/
def runCommand (w : Word) (s : State) : Host.Outcome State Fault Refusal :=
  match decode w with
  | .ok i => exec i s
  | .error _ => .next s.rejectWord

/-- One host access. At or above 0x400 the block is not selected: nothing changes and no data is returned
(20_memory.md R50; log 6). -/
def performAccess (a : Access) (s : State) : Host.Outcome State Fault Refusal :=
  match a with
  | .read32 addr =>
    .next (s.answer (if selects addr then .word (s.read32 addr) else .noData))
  | .write32 addr v =>
    if addr = Reg.cmd.offset then runCommand v (s.answer .noData)
    else .next ((s.write32 addr v).answer .noData)
  | .read8 addr =>
    .next (s.answer (if selects addr then .byte (s.read8 addr) else .noData))
  | .write8 addr b =>
    .next ((if selects addr then s.write8 addr b else s).answer .noData)

/-- One input: a host access, or the reset of the block (70_reset_and_hazards.md R230; log 10). -/
def performInput (i : Input) (s : State) : Host.Outcome State Fault Refusal :=
  match i with
  | .access a => performAccess a s
  | .reset => .next s.assertReset

/-- The next input, and the inputs after it: "the block performs host accesses in the order the host issues
them" (20_memory.md R56). With none, "the block waits for host accesses" (70_reset_and_hazards.md R231) and
"does nothing otherwise" (00_scope.md R9; log 4). -/
def performNext (s : State) : Host.Outcome State Fault Refusal :=
  match s.pending with
  | [] => .next s
  | i :: rest => performInput i { s with pending := rest }

end Sys2Proof.Machine
end

