-- ==== Sys2Proof/Machine/Step.lean ====
section
/-! DEFINITION. One step: one input from the outside (00_scope.md R10). -/

namespace Sys2Proof.Machine

open Sys2Proof

/-- One step of a legal instance performs its next input; an instance outside the parameters' ranges is refused
(00_scope.md R4, R6; log 2). -/
def step (s : State) : Host.Outcome State Fault Refusal :=
  if s.params.Legal then performNext s else .refused .illegalInstance

/-- `s` with the host's next access being the Write32 of the command word to `CMD`: the block holds no program, a
command comes from outside (10_state.md R22; log 3). A word longer than 32 bits is no command word and is not
posted (log 12). -/
def State.withFetchWord (s : State) (nbits w : Nat) : State :=
  match tableWord nbits w with
  | some word => s.postCommand word
  | none => s

end Sys2Proof.Machine
end

