-- ==== Sys2Proof/Machine/HostProgram.lean ====
section
/-! DEFINITION. The host's program lines and pseudo-sequences as the accesses they stand for
(30_encoding.md R86, R87; 95_test_vectors.md section 7). -/

namespace Sys2Proof.Machine

open Sys2Proof

/-- One line of a host program (30_encoding.md R86). -/
inductive Line where
  | cmd (i : Instr)
  | wr (r : Reg) (v : Word)
  | rd (r : Reg)
  | wbFb (i : Nat) (b : Byte)
  | wbPb (j : Nat) (b : Byte)
  | rbFb (i : Nat)
  | rbPb (j : Nat)
deriving DecidableEq, Repr

/-- The access a line stands for: "The encoding of each line is its access kind, address and value"
(30_encoding.md R86). -/
def Line.access : Line → Access
  | .cmd i => .write32 0x000 (encode i)
  | .wr r v => .write32 r.offset v
  | .rd r => .read32 r.offset
  | .wbFb i b => .write8 (fbBase + i) b
  | .wbPb j b => .write8 (pbBase + j) b
  | .rbFb i => .read8 (fbBase + i)
  | .rbPb j => .read8 (pbBase + j)

/-- `wbs FB[i..]`: "a sequence of `wb` lines, one per byte, in ascending `i`" (30_encoding.md R86). -/
def wbsFb (i : Nat) : List Byte → List Line
  | [] => []
  | b :: rest => .wbFb i b :: wbsFb (i + 1) rest

/-- `wbs PB[j..]` (30_encoding.md R86). -/
def wbsPb (j : Nat) : List Byte → List Line
  | [] => []
  | b :: rest => .wbPb j b :: wbsPb (j + 1) rest

/-- `rb FB[i] ... rb FB[i+n-1]`: a sequence of `rb` lines, one per byte, in ascending `i`
(95_test_vectors.md P1, line 13). -/
def rbsFb (i : Nat) : Nat → List Line
  | 0 => []
  | n + 1 => .rbFb i :: rbsFb (i + 1) n

/-- `s` with the accesses of the lines before the inputs still to come (log 3). -/
def State.postLines (s : State) (lines : List Line) : State :=
  { s with pending := lines.map (fun l => .access l.access) ++ s.pending }

/-- `CHECK` (30_encoding.md R87). -/
def checkSequence : List Line := [.cmd .verify, .rd .status]

/-- `ACK_REPLY` (30_encoding.md R87). -/
def ackReply : List Line := [.cmd .fmtAck]

/-- `SEND_FRAGMENT m, k, msg` up to the reads of the slice: `wr MSGLEN, |msg|`; `wr FRAGIDX, k`;
`cmd FRAG_SLICE`; `rd SLICE_OFF` (`o`); `rd SLICE_LEN` (`l`) (30_encoding.md R87). -/
def sendFragmentLocate (k : Word) (msg : List Byte) : List Line :=
  [.wr .msgLen (BitVec.ofNat 32 msg.length), .wr .fragIdx k, .cmd .fragSlice, .rd .sliceOff, .rd .sliceLen]

/-- `SEND_FRAGMENT m, k, msg` from the `o` and `l` the host has read: `wbs PB[0..l-1], msg[o..o+l-1]`; the four
fields; `cmd FMT_DATA`; "then the host reads `FB[0..F-1]` and sends it" (30_encoding.md R87). -/
def sendFragmentFormat (p : Params) (m k : Word) (msg : List Byte) (o l : Nat) : List Line :=
  wbsPb 0 ((msg.drop o).take l) ++
    [.wr .msgSeq m, .wr .fragSeq k, .wr .plen (BitVec.ofNat 32 l),
      .wr .totSize (BitVec.ofNat 32 msg.length), .cmd .fmtData] ++
    rbsFb 0 p.frameSize

/-- All the accesses of `SEND_FRAGMENT m, k, msg`, with `o` and `l` what its two reads of the slice returned
(30_encoding.md R87; log 16). -/
def sendFragment (p : Params) (m k : Word) (msg : List Byte) (o l : Nat) : List Line :=
  sendFragmentLocate k msg ++ sendFragmentFormat p m k msg o l

end Sys2Proof.Machine
end

