-- ==== Sys2Proof/Safety.lean ====
section
/-! DEFINITION. What a sound state is: the facts the spec states of every state a block can be in. -/

namespace Sys2Proof.Safety

open Sys2Proof Sys2Proof.Machine

/-- Every listed byte backs a byte of `PB` (address 0x100 + j, j < CAP) or of `FB` (address 0x200 + i, i < F)
(20_memory.md R50). -/
abbrev Backed (s : State) : Prop :=
  ∀ c ∈ s.mem, (pbBase ≤ c.1 ∧ c.1 < pbBase + s.capacity) ∨
    (fbBase ≤ c.1 ∧ c.1 < fbBase + s.params.frameSize)

/-- The invariant of the block: a legal instance (00_scope.md R4, R6), memory in canonical form (log 8) that
lists only bytes of the buffers, the reserved bits of `STATUS` 0 and `STATUS.ERR <= 6`
(93_implementation_defined.md I10, I11), `FRAGCNT` no count above that of `MAXMSG` (10_state.md R36),
`SLICE_LEN` at most `CAP` and `SLICE_OFF` no offset at or above `MAXMSG`, or 0 (10_state.md R37). -/
structure Sound (s : State) : Prop where
  legal : s.params.Legal
  canonical : Memory.wf s.mem
  backed : Backed s
  reservedZero : s.statusReserved = 0#2
  errRange : s.err.toNat ≤ 6
  fragCntRange : s.fragCnt.toNat ≤ s.countOf s.params.maxMsg
  sliceLenRange : s.sliceLen.toNat ≤ s.capacity
  sliceOffRange : s.sliceOff = 0#32 ∨ s.sliceOff.toNat < s.params.maxMsg

/-- `LE16(FB, a) = FB[a] + 256 * FB[a+1]`, as a number (00_scope.md R13). -/
def LE16At (s : State) (a : Nat) : Nat := (s.fb a).toNat + 256 * (s.fb (a + 1)).toNat

/-- `LE32(FB, a) = FB[a] + 2^8 * FB[a+1] + 2^16 * FB[a+2] + 2^24 * FB[a+3]`, as a number (00_scope.md R13). -/
def LE32At (s : State) (a : Nat) : Nat :=
  (s.fb a).toNat + 2 ^ 8 * (s.fb (a + 1)).toNat + 2 ^ 16 * (s.fb (a + 2)).toNat + 2 ^ 24 * (s.fb (a + 3)).toNat

/-- The payload capacity of a frame with fragment sequence number `seq`: "at most `CAP - 4 = F - 15` payload bytes
when `s = 0`, at most `CAP = F - 11` otherwise" (30_encoding.md R72). -/
def frameCap (s : State) (seq : Nat) : Nat :=
  if seq = 0 then s.params.frameSize - 15 else s.params.frameSize - 11

/-- The payload offset of a frame with fragment sequence number `seq` (00_scope.md R15). -/
def frameStart (seq : Nat) : Nat := if seq = 0 then 15 else 11

/-- The sum of the 16-bit words of `FB[2..F-1]`; a byte at or beyond `F` reads 0, so an odd last byte is
zero-extended (40_checksum.md R100). -/
def coveredSum (s : State) : Nat :=
  ∑ i ∈ Finset.range ((s.params.frameSize - 1) / 2), LE16At s (2 + 2 * i)

/-- The frame in `FB` is checksum-valid: the sum modulo 2^16 is the number stored at offset 0 (40_checksum.md
R100 to R102). -/
def ChecksumValid (s : State) : Prop := coveredSum s % 65536 = LE16At s 0

/-- After the transition from `s` to `t` the fields of `STATUS` are `ck`, `tot` and `code`, and the reserved bits
are as before (10_state.md R27). -/
def StatusAfter (s t : State) (ck tot : Bool) (code : BitVec 4) : Prop :=
  t.ckOk = ck ∧ t.hasTotal = tot ∧ t.err = code ∧ t.statusReserved = s.statusReserved

/-- Every byte outside the FB window's `F` bytes reads as before. -/
def OnlyFbWritten (s t : State) : Prop :=
  ∀ a, ¬ (fbBase ≤ a ∧ a < fbBase + s.params.frameSize) → Memory.read t.mem a = Memory.read s.mem a

/-- Every byte outside the PB window's `CAP` bytes reads as before. -/
def OnlyPbWritten (s t : State) : Prop :=
  ∀ a, ¬ (pbBase ≤ a ∧ a < pbBase + s.capacity) → Memory.read t.mem a = Memory.read s.mem a

end Sys2Proof.Safety
end

