-- ==== Sys2Proof/Certificates/Slice0/Obligations.lean ====
section
/-! DEFINITION. The statements about the block, for the provers. Each formalises rules of spec/; `F` is
`s.params.frameSize` and `CAP` is `s.capacity`. A frame is said by an equation `t = { s with … }`, which names
every field that may differ. In every statement about a `step` the inputs still to come (`pending`) and the data
returned (`reply`) are the model's own (log 3, log 5), not the spec's. -/

open Sys2Proof Sys2Proof.Machine Sys2Proof.Safety

/-! ## Command words -/

/-- 30_encoding.md R81: each word of the opcode map decodes to its command. -/
def Obligations.TabledWordsDecodeToTheirCommands : Prop :=
  decode 0x00000000#32 = .ok .nop ∧ decode 0x00000001#32 = .ok .csum ∧
  decode 0x00000002#32 = .ok .verify ∧ decode 0x00000003#32 = .ok .sealFrame ∧
  decode 0x00000010#32 = .ok .fmtData ∧ decode 0x00000011#32 = .ok .fmtAck ∧
  decode 0x00000020#32 = .ok .parseData ∧ decode 0x00000021#32 = .ok .parseAck ∧
  decode 0x00000030#32 = .ok .fragCount ∧ decode 0x00000031#32 = .ok .fragSlice ∧
  decode 0x000000F0#32 = .ok .clear

/-- 30_encoding.md R83: a word is read as a command exactly when it is that command's word, so decoding an encoded
command gives it back and no other word is accepted. -/
def Obligations.DecodeAcceptsExactlyTheEncodedWords : Prop :=
  ∀ (w : Word) (i : Instr), decode w = .ok i ↔ w = encode i

/-- 30_encoding.md R82: the illegal words are those with `w[31:8] != 0` and those whose `OP` is one of the 245
unassigned values. -/
def Obligations.IllegalWordsAreThoseOfTheRule : Prop :=
  ∀ w : Word, (∃ r, decode w = .error r) ↔
    (w.toNat / 256 ≠ 0 ∨
      (0x04 ≤ w.toNat % 256 ∧ w.toNat % 256 ≤ 0x0F) ∨ (0x12 ≤ w.toNat % 256 ∧ w.toNat % 256 ≤ 0x1F) ∨
      (0x22 ≤ w.toNat % 256 ∧ w.toNat % 256 ≤ 0x2F) ∨ (0x32 ≤ w.toNat % 256 ∧ w.toNat % 256 ≤ 0xEF) ∨
      (0xF1 ≤ w.toNat % 256 ∧ w.toNat % 256 ≤ 0xFF))

/-! ## Steps -/

/-- 20_memory.md R54: the Write32 of a command word to address 0 performs the command, in the state without that
access and with no data returned. The queue of accesses is the model's (log 3, log 5). -/
def Obligations.StepRunsTheDecodedCommand : Prop :=
  ∀ (s : State) (w : Word) (i : Instr) (rest : List Input), s.params.Legal →
    s.pending = .access (.write32 0x000 w) :: rest → decode w = .ok i →
    step s = exec i { s with pending := rest, reply := .noData }

/-- The same through `withFetchWord`: the next step of a legal instance runs the command posted, whatever is
pending behind it (the model's queue, log 3). -/
def Obligations.PostedWordRunsAsTheNextStep : Prop :=
  ∀ (s : State) (i : Instr), s.params.Legal →
    step (s.withFetchWord 32 (encode i).toNat) = exec i { s with reply := .noData }

/-- 30_encoding.md R82: an illegal word writes `STATUS.ERR <- ILLEGAL_CMD` and changes nothing else. -/
def Obligations.IllegalWordChangesOnlyErr : Prop :=
  ∀ (s : State) (w : Word) (rest : List Input), s.params.Legal →
    s.pending = .access (.write32 0x000 w) :: rest →
    (w.toNat / 256 ≠ 0 ∨ w.toNat % 256 ∉ [0x00, 0x01, 0x02, 0x03, 0x10, 0x11, 0x20, 0x21, 0x30, 0x31, 0xF0]) →
    ∃ t, step s = .next t ∧ StatusAfter s t s.ckOk s.hasTotal 1#4 ∧
      t = { s with status := t.status, pending := rest, reply := .noData }

/-- Every input of a legal instance has a next state, which keeps the parameters and has taken that one input
(93_implementation_defined.md section 4: "Every command and every access of 20_memory.md rule R51 has exactly one
next state from every state"; the queue is the model's, log 3). -/
def Obligations.EveryInputOfALegalInstanceCompletes : Prop :=
  ∀ s : State, s.params.Legal →
    ∃ t, step s = .next t ∧ t.params = s.params ∧ t.pending = s.pending.tail

/-- 60_exceptions.md R200, 93 section 4: every command has a next state in every state, and leaves the inputs still
to come, the data returned and the parameters as they are. -/
def Obligations.EveryCommandCompletes : Prop :=
  ∀ (i : Instr) (s : State),
    ∃ t, exec i s = .next t ∧ t.pending = s.pending ∧ t.reply = s.reply ∧ t.params = s.params

/-- 70_reset_and_hazards.md R231, 00_scope.md R9: with no input the block waits (the step that changes nothing is
the model's, log 4). -/
def Obligations.StepWithoutInputChangesNothing : Prop :=
  ∀ s : State, s.params.Legal → s.pending = [] → step s = .next s

/-- 00_scope.md R4 and R6: the model refuses an instance outside the ranges (the form of the refusal is the
model's, log 2), and no other. -/
def Obligations.ExactlyIllegalInstancesAreRefused : Prop :=
  ∀ s : State, step s = .refused .illegalInstance ↔
    ¬ (15 ≤ s.params.frameSize ∧ s.params.frameSize ≤ 266 ∧ s.params.maxMsg ≤ 2 ^ 32 - 1)

/-! ## Reset and the invariant -/

/-- 10_state.md R38: after reset every byte of the buffers and every register but the constants is 0, and those
hold their parameters. -/
def Obligations.ResetStateHoldsTheResetValues : Prop :=
  ∀ p : Params, p.Legal →
    (∀ i, (State.resetOf p).fb i = 0#8) ∧ (∀ j, (State.resetOf p).pb j = 0#8) ∧
    (∀ r : Reg, r ≠ .cfgF → r ≠ .cfgCap → r ≠ .cfgMaxMsg → (State.resetOf p).readReg r = 0#32) ∧
    ((State.resetOf p).readReg .cfgF).toNat = p.frameSize ∧
    ((State.resetOf p).readReg .cfgCap).toNat = p.frameSize - 11 ∧
    ((State.resetOf p).readReg .cfgMaxMsg).toNat = p.maxMsg ∧
    (State.resetOf p).err = 0#4 ∧ (State.resetOf p).ckOk = false ∧ (State.resetOf p).hasTotal = false

/-- Asserting reset between two accesses gives the reset state of the instance (70_reset_and_hazards.md R230); that
the inputs still to come stay and no data is returned is the model's (log 10). -/
def Obligations.AssertedResetGivesTheResetState : Prop :=
  ∀ (s : State) (rest : List Input), s.params.Legal → s.pending = .reset :: rest →
    step s = .next { State.resetOf s.params with pending := rest }

/-- The invariant holds after reset of every legal instance, the model's example instance among them (log 1). -/
def Obligations.ResetStateIsSound : Prop :=
  (∀ p : Params, p.Legal → Sound (State.resetOf p)) ∧ Sound State.reset

/-- Every step keeps the invariant: a legal instance, memory in canonical form and within the buffers, reserved
`STATUS` bits 0, `ERR <= 6` (93 I10, I11), `FRAGCNT`, `SLICE_LEN` and `SLICE_OFF` within their bounds
(10_state.md R36, R37). The canonical form is the model's (log 8). -/
def Obligations.EveryStepKeepsSound : Prop :=
  ∀ s t : State, Sound s → step s = .next t → Sound t

/-! ## The host's accesses -/

/-- 20_memory.md R52, 10_state.md R20: a Read32 of a register returns its value, the bits above its width 0, and
changes nothing in the block. -/
def Obligations.Read32ReturnsTheRegister : Prop :=
  ∀ (s : State) (rest : List Input) (addr : Nat) (v : Word), s.params.Legal →
    (addr, v) ∈ [(0x000, 0#32), (0x004, s.status.setWidth 32),
      (0x008, BitVec.ofNat 32 s.params.frameSize), (0x00C, BitVec.ofNat 32 (s.params.frameSize - 11)),
      (0x010, BitVec.ofNat 32 s.params.maxMsg), (0x014, s.csumResult.setWidth 32), (0x018, s.msgSeq),
      (0x01C, s.fragSeq), (0x020, s.plen.setWidth 32), (0x024, s.totSize), (0x028, s.msgLen),
      (0x02C, s.fragIdx), (0x030, s.fragCnt), (0x034, s.sliceOff), (0x038, s.sliceLen.setWidth 32)] →
    s.pending = .access (.read32 addr) :: rest →
    step s = .next { s with pending := rest, reply := .word v }

/-- 10_state.md R27: bit 0 of a read `STATUS` is `CK_OK`, bit 1 `HAS_TOTAL`, bits 7:4 `ERR`; in a sound state the
reserved bits read 0. -/
def Obligations.ReadStatusShowsItsFields : Prop :=
  ∀ (s : State) (rest : List Input), Sound s → s.pending = .access (.read32 0x004) :: rest →
    ∃ v : Word, step s = .next { s with pending := rest, reply := .word v } ∧
      v.toNat = s.ckOk.toNat + 2 * s.hasTotal.toNat + 16 * s.err.toNat

/-- 10_state.md R30 to R35: a Write32 to a read/write register stores the value, `PLEN` its low 8 bits, and changes
only that register. -/
def Obligations.Write32StoresIntoTheWritableRegisters : Prop :=
  ∀ (s t : State) (rest : List Input) (addr : Nat) (v : Word), s.params.Legal →
    (addr, t) ∈ [(0x018, { s with msgSeq := v }), (0x01C, { s with fragSeq := v }),
      (0x020, { s with plen := BitVec.ofNat 8 (v.toNat % 256) }), (0x024, { s with totSize := v }),
      (0x028, { s with msgLen := v }), (0x02C, { s with fragIdx := v })] →
    s.pending = .access (.write32 addr v) :: rest →
    step s = .next { t with pending := rest, reply := .noData }

/-- 10_state.md R27, R28, R29, R36, R37: a Write32 to a read-only register is ignored. -/
def Obligations.Write32ToAReadOnlyRegisterIsIgnored : Prop :=
  ∀ (s : State) (rest : List Input) (addr : Nat) (v : Word), s.params.Legal →
    addr ∈ [0x004, 0x008, 0x00C, 0x010, 0x014, 0x030, 0x034, 0x038] →
    s.pending = .access (.write32 addr v) :: rest →
    step s = .next { s with pending := rest, reply := .noData }

/-- 20_memory.md R52 and R53: a Read32 or Write32 within the window that is misaligned, at a reserved offset or in a
buffer region reads 0 and writes nothing. -/
def Obligations.WordAccessOutsideTheRegistersReadsZeroWritesNothing : Prop :=
  ∀ (s : State) (rest : List Input) (addr : Nat) (v : Word), s.params.Legal →
    addr < 0x400 → ¬ (addr % 4 = 0 ∧ addr ≤ 0x038) →
    (s.pending = .access (.read32 addr) :: rest →
      step s = .next { s with pending := rest, reply := .word 0#32 }) ∧
    (s.pending = .access (.write32 addr v) :: rest →
      step s = .next { s with pending := rest, reply := .noData })

/-- 20_memory.md R52: a Read8 or Write8 in the register region reads 0 and writes nothing; "a `Write8` to `CMD`
starts no command". -/
def Obligations.ByteAccessToTheRegisterRegionDoesNothing : Prop :=
  ∀ (s : State) (rest : List Input) (addr : Nat) (b : Byte), s.params.Legal → addr < 0x100 →
    (s.pending = .access (.read8 addr) :: rest →
      step s = .next { s with pending := rest, reply := .byte 0#8 }) ∧
    (s.pending = .access (.write8 addr b) :: rest →
      step s = .next { s with pending := rest, reply := .noData })

/-- 20_memory.md R53: a Read8 in a buffer window returns the byte of the buffer, or 0 at or beyond its end. -/
def Obligations.Read8ReturnsTheBufferByte : Prop :=
  ∀ (s : State) (rest : List Input) (addr : Nat), s.params.Legal → 0x100 ≤ addr → addr < 0x400 →
    s.pending = .access (.read8 addr) :: rest →
    step s = .next { s with pending := rest, reply := .byte (
      if addr < 0x200 then
        (if addr - 0x100 < s.params.frameSize - 11 then Memory.read s.mem addr else 0#8)
      else (if addr - 0x200 < s.params.frameSize then Memory.read s.mem addr else 0#8)) }

/-- 20_memory.md R53, R54: a Write8 to a backed byte of a buffer window changes that byte and nothing else; to an
unbacked byte of the windows it changes nothing. -/
def Obligations.Write8ChangesExactlyOneBackedByte : Prop :=
  ∀ (s : State) (rest : List Input) (addr : Nat) (b : Byte), s.params.Legal → 0x100 ≤ addr → addr < 0x400 →
    s.pending = .access (.write8 addr b) :: rest →
    ∃ t, step s = .next t ∧ t = { s with mem := t.mem, pending := rest, reply := .noData } ∧
      ((addr < 0x200 ∧ addr - 0x100 < s.params.frameSize - 11) ∨
          (0x200 ≤ addr ∧ addr - 0x200 < s.params.frameSize) →
        Memory.read t.mem addr = b ∧ ∀ a, a ≠ addr → Memory.read t.mem a = Memory.read s.mem a) ∧
      (¬ ((addr < 0x200 ∧ addr - 0x100 < s.params.frameSize - 11) ∨
          (0x200 ≤ addr ∧ addr - 0x200 < s.params.frameSize)) → t.mem = s.mem)

/-- 20_memory.md R54: "Every read is free of side effects and may be repeated with the same result". -/
def Obligations.ReadsAreFreeOfSideEffects : Prop :=
  ∀ (s : State) (rest : List Input) (a : Access), s.params.Legal →
    (∃ addr, a = .read32 addr ∨ a = .read8 addr) → s.pending = .access a :: .access a :: rest →
    ∃ r, step s = .next { s with pending := .access a :: rest, reply := r } ∧
      step { s with pending := .access a :: rest, reply := r } = .next { s with pending := rest, reply := r }

/-- 20_memory.md R56: a read of a buffer byte returns the value last written to it. -/
def Obligations.ByteReadAfterWriteReturnsTheWrittenByte : Prop :=
  ∀ (s : State) (rest : List Input) (addr : Nat) (b : Byte), s.params.Legal →
    ((0x100 ≤ addr ∧ addr < 0x100 + s.params.frameSize - 11) ∨
      (0x200 ≤ addr ∧ addr < 0x200 + s.params.frameSize)) →
    s.pending = .access (.write8 addr b) :: .access (.read8 addr) :: rest →
    ∃ t u, step s = .next t ∧ step t = .next u ∧ u.reply = .byte b ∧ u.pending = rest

/-- 20_memory.md R50: an access at or above 0x400 does not select the block (that it returns no data is the model's,
log 6). -/
def Obligations.AccessAboveTheWindowDoesNothing : Prop :=
  ∀ (s : State) (rest : List Input) (addr : Nat) (v : Word) (b : Byte) (a : Access), s.params.Legal →
    0x400 ≤ addr → a ∈ [.read32 addr, .write32 addr v, .read8 addr, .write8 addr b] →
    s.pending = .access a :: rest → step s = .next { s with pending := rest, reply := .noData }

/-- 20_memory.md R60: after a PARSE_DATA that ends with `ERR = NONE` the bytes `FB[2]` to `FB[5]` read as `MSGSEQ`,
least significant first. -/
def Obligations.ParsedMsgSeqReadsAsItsFrameBytes : Prop :=
  ∀ s t : State, s.params.Legal → exec .parseData s = .next t → t.err = 0#4 →
    t.fb 2 = t.msgSeq.extractLsb' 0 8 ∧ t.fb 3 = t.msgSeq.extractLsb' 8 8 ∧
    t.fb 4 = t.msgSeq.extractLsb' 16 8 ∧ t.fb 5 = t.msgSeq.extractLsb' 24 8

/-! ## Checksum family -/

/-- 40_checksum.md R103 with R100: CSUM writes the sum modulo 2^16 of the covered words and clears `ERR`. -/
def Obligations.CsumWritesTheCoveredSum : Prop :=
  ∀ s : State, ∃ t, exec .csum s = .next t ∧ t.csumResult.toNat = coveredSum s % 65536 ∧
    StatusAfter s t s.ckOk s.hasTotal 0#4 ∧ t = { s with csumResult := t.csumResult, status := t.status }

/-- 40_checksum.md R104: VERIFY records the sum, and reports whether it equals the stored checksum. -/
def Obligations.VerifyComparesSumAndStoredChecksum : Prop :=
  ∀ s : State, ∃ t, exec .verify s = .next t ∧ t.csumResult.toNat = coveredSum s % 65536 ∧
    t = { s with csumResult := t.csumResult, status := t.status } ∧
    (coveredSum s % 65536 = LE16At s 0 → StatusAfter s t true s.hasTotal 0#4) ∧
    (coveredSum s % 65536 ≠ LE16At s 0 → StatusAfter s t false s.hasTotal 2#4)

/-- 40_checksum.md R105: SEAL stores the sum little-endian in `FB[0..1]`, records it, and changes no other byte. -/
def Obligations.SealStoresTheChecksum : Prop :=
  ∀ s : State, s.params.Legal → ∃ t, exec .sealFrame s = .next t ∧
    t.csumResult.toNat = coveredSum s % 65536 ∧
    t.fb 0 = t.csumResult.extractLsb' 0 8 ∧ t.fb 1 = t.csumResult.extractLsb' 8 8 ∧
    (∀ a, a ≠ fbBase + 0 → a ≠ fbBase + 1 → Memory.read t.mem a = Memory.read s.mem a) ∧
    StatusAfter s t s.ckOk s.hasTotal 0#4 ∧
    t = { s with mem := t.mem, csumResult := t.csumResult, status := t.status }

/-- 40_checksum.md R109: the checksum does not depend on `FB[0..1]`; after SEAL the frame is valid and a second SEAL
changes nothing. -/
def Obligations.SealIsIdempotentAndMakesTheFrameValid : Prop :=
  (∀ s t : State, t.params = s.params → (∀ i, 2 ≤ i → t.fb i = s.fb i) → t.csum = s.csum) ∧
  (∀ s t : State, Sound s → exec .sealFrame s = .next t → ChecksumValid t ∧ exec .sealFrame t = .next t)

/-- 40_checksum.md R106: if the frames of `s` and `t` differ only in the covered word at offset `2 + 2k`, the checksum
changes by the change of that word; and if a checksum-valid frame is changed in the two bytes of one word only (the
word at offset `2m`, the stored checksum for `m = 0`), and really changed, VERIFY reports `BAD_CHECKSUM`. -/
def Obligations.OneWordChangesShiftTheChecksumAndAreDetected : Prop :=
  (∀ (s t : State) (k : Nat), t.params = s.params → 2 + 2 * k < s.params.frameSize →
    (∀ i, i ≠ 2 + 2 * k → i ≠ 3 + 2 * k → t.fb i = s.fb i) →
    t.csum = s.csum + BitVec.ofNat 16 (LE16At t (2 + 2 * k)) - BitVec.ofNat 16 (LE16At s (2 + 2 * k))) ∧
  (∀ (s t : State) (m : Nat), t.params = s.params → ChecksumValid s →
    (∀ i, i ≠ 2 * m → i ≠ 2 * m + 1 → t.fb i = s.fb i) → (∃ i, t.fb i ≠ s.fb i) →
    ∃ u, exec .verify t = .next u ∧ u.ckOk = false ∧ u.err = 2#4)

/-- 40_checksum.md R107: a single-bit flip of any byte of a checksum-valid frame is detected, since it changes the
checksum by a power of two below 2^16 or changes the stored checksum; exchanging the bytes `b` (at the lower
offset) and `a` of one covered word changes the checksum by `255 * (b - a)`, and is detected when they differ. -/
def Obligations.BitFlipsAndByteExchangesAreDetected : Prop :=
  (∀ (s t : State) (i j : Nat), i < s.params.frameSize → j < 8 →
    t = s.setFb i (s.fb i ^^^ (1#8 <<< j)) →
    (2 ≤ i → ∃ e, e < 16 ∧ (t.csum = s.csum + BitVec.ofNat 16 (2 ^ e) ∨ t.csum = s.csum - BitVec.ofNat 16 (2 ^ e))) ∧
    (i < 2 → t.csum = s.csum ∧ LE16At t 0 ≠ LE16At s 0) ∧
    (ChecksumValid s → ∃ u, exec .verify t = .next u ∧ u.ckOk = false ∧ u.err = 2#4)) ∧
  (∀ (s t : State) (k : Nat) (a b : Byte), 3 + 2 * k < s.params.frameSize →
    b = s.fb (2 + 2 * k) → a = s.fb (3 + 2 * k) → t = (s.setFb (2 + 2 * k) a).setFb (3 + 2 * k) b →
    t.csum = s.csum + 255#16 * (b.setWidth 16 - a.setWidth 16) ∧
    (ChecksumValid s → a ≠ b → ∃ u, exec .verify t = .next u ∧ u.ckOk = false ∧ u.err = 2#4))

/-- 40_checksum.md R108: changes whose amounts sum to 0 mod 2^16 (a change of the stored checksum counted against
them) are not detected; exchanging two whole covered words is such a change. -/
def Obligations.CompensatingChangesAreNotDetected : Prop :=
  (∀ s t : State, t.params = s.params → ChecksumValid s →
    (coveredSum t + LE16At s 0) % 65536 = (coveredSum s + LE16At t 0) % 65536 →
    ∃ u, exec .verify t = .next u ∧ u.ckOk = true ∧ u.err = 0#4) ∧
  (∀ (s t : State) (k l : Nat), t.params = s.params → ChecksumValid s → k ≠ l →
    3 + 2 * k < s.params.frameSize → 3 + 2 * l < s.params.frameSize →
    t.fb (2 + 2 * k) = s.fb (2 + 2 * l) → t.fb (3 + 2 * k) = s.fb (3 + 2 * l) →
    t.fb (2 + 2 * l) = s.fb (2 + 2 * k) → t.fb (3 + 2 * l) = s.fb (3 + 2 * k) →
    (∀ i, i ≠ 2 + 2 * k → i ≠ 3 + 2 * k → i ≠ 2 + 2 * l → i ≠ 3 + 2 * l → t.fb i = s.fb i) →
    ∃ u, exec .verify t = .next u ∧ u.ckOk = true ∧ u.err = 0#4)

/-- 10_state.md R39: an all-zero frame is checksum-valid: VERIFY accepts it, and PARSE_DATA gives message 0, fragment
0, payload length 0, total size 0. -/
def Obligations.AllZeroFrameIsAccepted : Prop :=
  ∀ s : State, s.params.Legal → (∀ i, s.fb i = 0#8) →
    (∃ t, exec .verify s = .next t ∧ t.ckOk = true ∧ t.err = 0#4) ∧
    (∃ t, exec .parseData s = .next t ∧ t.ckOk = true ∧ t.hasTotal = true ∧ t.err = 0#4 ∧
      t.msgSeq = 0#32 ∧ t.fragSeq = 0#32 ∧ t.plen = 0#8 ∧ t.totSize = 0#32)

/-! ## Formatter family -/

/-- 41_format.md R120 with the layout of 30_encoding.md R70: FMT_DATA with `PLEN` within the capacity builds the data
frame, its padding 0 and its checksum in place; with a larger `PLEN` it reports `PLEN_RANGE` and changes nothing
else. -/
def Obligations.FmtDataBuildsTheDataFrame : Prop :=
  ∀ s : State, s.params.Legal →
    (s.plen.toNat ≤ frameCap s s.fragSeq.toNat →
      ∃ t, exec .fmtData s = .next t ∧
        LE32At t 2 = s.msgSeq.toNat ∧ LE32At t 6 = s.fragSeq.toNat ∧ t.fb 10 = s.plen ∧
        (s.fragSeq = 0#32 → LE32At t 11 = s.totSize.toNat) ∧
        (∀ j, j < s.plen.toNat → t.fb (frameStart s.fragSeq.toNat + j) = s.pb j) ∧
        (∀ i, frameStart s.fragSeq.toNat + s.plen.toNat ≤ i → t.fb i = 0#8) ∧
        t.csumResult.toNat = coveredSum t % 65536 ∧ LE16At t 0 = t.csumResult.toNat ∧
        OnlyFbWritten s t ∧ StatusAfter s t s.ckOk s.hasTotal 0#4 ∧
        t = { s with mem := t.mem, csumResult := t.csumResult, status := t.status }) ∧
    (frameCap s s.fragSeq.toNat < s.plen.toNat →
      ∃ t, exec .fmtData s = .next t ∧ StatusAfter s t s.ckOk s.hasTotal 4#4 ∧ t = { s with status := t.status })

/-- 41_format.md R121 with the layout of 30_encoding.md R73: FMT_ACK builds the ack frame. -/
def Obligations.FmtAckBuildsTheAckFrame : Prop :=
  ∀ s : State, s.params.Legal → ∃ t, exec .fmtAck s = .next t ∧
    LE32At t 2 = s.msgSeq.toNat ∧ LE32At t 6 = s.fragSeq.toNat ∧ (∀ i, 10 ≤ i → t.fb i = 0#8) ∧
    t.csumResult.toNat = coveredSum t % 65536 ∧ LE16At t 0 = t.csumResult.toNat ∧
    OnlyFbWritten s t ∧ StatusAfter s t s.ckOk s.hasTotal 0#4 ∧
    t = { s with mem := t.mem, csumResult := t.csumResult, status := t.status }

/-- 41_format.md R122: a frame FMT_DATA or FMT_ACK has written passes VERIFY, and the matching parse command accepts
it. -/
def Obligations.FormattedFramesVerifyAndParse : Prop :=
  (∀ s t : State, s.params.Legal → exec .fmtData s = .next t → t.err = 0#4 →
    (∃ u, exec .verify t = .next u ∧ u.ckOk = true ∧ u.err = 0#4) ∧
    (∃ u, exec .parseData t = .next u ∧ u.ckOk = true ∧ u.err = 0#4)) ∧
  (∀ s t : State, s.params.Legal → exec .fmtAck s = .next t →
    (∃ u, exec .verify t = .next u ∧ u.ckOk = true ∧ u.err = 0#4) ∧
    (∃ u, exec .parseAck t = .next u ∧ u.ckOk = true ∧ u.err = 0#4))

/-- 41_format.md R123: FMT_ACK of fragment 0 and FMT_DATA of fragment 0 with `PLEN = 0` and `TOTSIZE = 0` write the
same bytes. -/
def Obligations.AckOfFragmentZeroEqualsTheEmptyMessageFrame : Prop :=
  ∀ s r t u : State, s.params.Legal → r.params = s.params → r.msgSeq = s.msgSeq →
    s.fragSeq = 0#32 → r.fragSeq = 0#32 → r.plen = 0#8 → r.totSize = 0#32 →
    exec .fmtAck s = .next t → exec .fmtData r = .next u → ∀ i, t.fb i = u.fb i

/-- 41_format.md R124: the closed forms of the formatter's checksum, of an ack and of a data frame. -/
def Obligations.FormatterChecksumClosedForms : Prop :=
  (∀ s t : State, s.params.Legal → exec .fmtAck s = .next t →
    t.csumResult.toNat = (s.msgSeq.toNat % 65536 + s.msgSeq.toNat / 65536 +
      s.fragSeq.toNat % 65536 + s.fragSeq.toNat / 65536) % 65536) ∧
  (∀ s t : State, s.params.Legal → exec .fmtData s = .next t → t.err = 0#4 →
    t.csumResult.toNat = (s.msgSeq.toNat % 65536 + s.msgSeq.toNat / 65536 +
      s.fragSeq.toNat % 65536 + s.fragSeq.toNat / 65536 +
      (s.plen.toNat + 256 * (if s.fragSeq = 0#32 then s.totSize.toNat % 256
        else if s.plen = 0#8 then 0 else (s.pb 0).toNat)) +
      ∑ i ∈ Finset.range ((s.params.frameSize - 11) / 2), LE16At t (12 + 2 * i)) % 65536)

/-- 41_format.md R120: "bytes `PB[PLEN..CAP-1]` are ignored", and `TOTSIZE` is when `FRAGSEQ != 0`: two states that
agree on what FMT_DATA reads (30_encoding.md R84) give the same outcome, the same frame and the same checksum. -/
def Obligations.FmtDataIgnoresStalePayloadAndUnusedTotal : Prop :=
  ∀ s r t u : State, s.params.Legal → r.params = s.params → r.msgSeq = s.msgSeq → r.fragSeq = s.fragSeq →
    r.plen = s.plen → (s.fragSeq = 0#32 → r.totSize = s.totSize) →
    (∀ j, j < s.plen.toNat → r.pb j = s.pb j) →
    exec .fmtData s = .next t → exec .fmtData r = .next u →
    t.err = u.err ∧ (t.err = 0#4 → t.csumResult = u.csumResult ∧ ∀ i, t.fb i = u.fb i)

/-! ## Parser family -/

/-- 42_parse.md R140: PARSE_DATA, in its three outcomes. A frame that is not checksum-valid writes no field; a valid
one whose payload length exceeds the capacity writes the header registers and not `PB`; any other one writes the
header registers and all of `PB`, the payload and then zeros. -/
def Obligations.ParseDataChecksAndUnpacks : Prop :=
  ∀ s : State, s.params.Legal →
    (¬ ChecksumValid s →
      ∃ t, exec .parseData s = .next t ∧ t.csumResult.toNat = coveredSum s % 65536 ∧
        StatusAfter s t false false 2#4 ∧ t = { s with csumResult := t.csumResult, status := t.status }) ∧
    (ChecksumValid s → frameCap s (LE32At s 6) < (s.fb 10).toNat →
      ∃ t, exec .parseData s = .next t ∧ t.csumResult.toNat = coveredSum s % 65536 ∧
        t.msgSeq.toNat = LE32At s 2 ∧ t.fragSeq.toNat = LE32At s 6 ∧ t.plen = s.fb 10 ∧
        t.totSize.toNat = (if LE32At s 6 = 0 then LE32At s 11 else s.totSize.toNat) ∧
        StatusAfter s t true (decide (LE32At s 6 = 0)) 3#4 ∧
        t = { s with csumResult := t.csumResult, status := t.status, msgSeq := t.msgSeq, fragSeq := t.fragSeq,
                     plen := t.plen, totSize := t.totSize }) ∧
    (ChecksumValid s → (s.fb 10).toNat ≤ frameCap s (LE32At s 6) →
      ∃ t, exec .parseData s = .next t ∧ t.csumResult.toNat = coveredSum s % 65536 ∧
        t.msgSeq.toNat = LE32At s 2 ∧ t.fragSeq.toNat = LE32At s 6 ∧ t.plen = s.fb 10 ∧
        t.totSize.toNat = (if LE32At s 6 = 0 then LE32At s 11 else s.totSize.toNat) ∧
        (∀ j, j < s.capacity →
          t.pb j = if j < (s.fb 10).toNat then s.fb (frameStart (LE32At s 6) + j) else 0#8) ∧
        OnlyPbWritten s t ∧ StatusAfter s t true (decide (LE32At s 6 = 0)) 0#4 ∧
        t = { s with mem := t.mem, csumResult := t.csumResult, status := t.status, msgSeq := t.msgSeq,
                     fragSeq := t.fragSeq, plen := t.plen, totSize := t.totSize })

/-- 42_parse.md R141: PARSE_ACK, in its three outcomes. It never writes `TOTSIZE` or `PB`. -/
def Obligations.ParseAckChecksAndUnpacks : Prop :=
  ∀ s : State,
    (¬ ChecksumValid s →
      ∃ t, exec .parseAck s = .next t ∧ t.csumResult.toNat = coveredSum s % 65536 ∧
        StatusAfter s t false false 2#4 ∧ t = { s with csumResult := t.csumResult, status := t.status }) ∧
    (ChecksumValid s →
      ∃ t, exec .parseAck s = .next t ∧ t.csumResult.toNat = coveredSum s % 65536 ∧
        t.msgSeq.toNat = LE32At s 2 ∧ t.fragSeq.toNat = LE32At s 6 ∧ t.plen = s.fb 10 ∧
        StatusAfter s t true false (if s.fb 10 = 0#8 then 0#4 else 3#4) ∧
        t = { s with csumResult := t.csumResult, status := t.status, msgSeq := t.msgSeq, fragSeq := t.fragSeq,
                     plen := t.plen })

/-- 42_parse.md R142: FMT_DATA then PARSE_DATA gives back the fields and the payload; FMT_ACK then PARSE_ACK gives back
the sequence numbers, with `PLEN = 0`; and a PARSE_DATA that ends with `ERR = NONE`, followed by FMT_DATA, rebuilds the
same bytes exactly when the padding of the parsed frame was all 0. -/
def Obligations.FormatAndParseRoundTrip : Prop :=
  (∀ s t : State, s.params.Legal → s.plen.toNat ≤ frameCap s s.fragSeq.toNat → exec .fmtData s = .next t →
    ∃ u, exec .parseData t = .next u ∧ u.err = 0#4 ∧ u.msgSeq = s.msgSeq ∧ u.fragSeq = s.fragSeq ∧
      u.plen = s.plen ∧ u.totSize = s.totSize ∧ u.hasTotal = decide (s.fragSeq = 0#32) ∧
      (∀ j, j < s.plen.toNat → u.pb j = s.pb j) ∧ (∀ j, s.plen.toNat ≤ j → u.pb j = 0#8)) ∧
  (∀ s t : State, s.params.Legal → exec .fmtAck s = .next t →
    ∃ u, exec .parseAck t = .next u ∧ u.err = 0#4 ∧ u.msgSeq = s.msgSeq ∧ u.fragSeq = s.fragSeq ∧ u.plen = 0#8) ∧
  (∀ s t : State, s.params.Legal → exec .parseData s = .next t → t.err = 0#4 →
    ∃ u, exec .fmtData t = .next u ∧
      ((∀ i, i < s.params.frameSize → u.fb i = s.fb i) ↔
        (∀ i, frameStart (LE32At s 6) + (s.fb 10).toNat ≤ i → i < s.params.frameSize → s.fb i = 0#8)))

/-- 42_parse.md R143: after `BAD_CHECKSUM` the field registers and `PB` hold what they held before the parse. -/
def Obligations.BadChecksumDeliversNothing : Prop :=
  ∀ (i : Instr) (s t : State), (i = .parseData ∨ i = .parseAck) → exec i s = .next t → t.err = 2#4 →
    ¬ ChecksumValid s ∧ t.msgSeq = s.msgSeq ∧ t.fragSeq = s.fragSeq ∧ t.plen = s.plen ∧ t.totSize = s.totSize ∧
      t.mem = s.mem

/-- 42_parse.md R145: a duplicate is parsed exactly like the first copy: parsing the same bytes again leaves the state
the first parse left. -/
def Obligations.ParsingADuplicateChangesNothing : Prop :=
  ∀ (i : Instr) (s t : State), (i = .parseData ∨ i = .parseAck) → Sound s → exec i s = .next t →
    exec i t = .next t

/-- 30_encoding.md R87, ACK_REPLY: FMT_ACK after a PARSE_DATA that ended with `CK_OK = 1` builds the ack of the frame
just parsed, and `PB` still holds the payload. -/
def Obligations.AckReplyAcknowledgesTheParsedFrame : Prop :=
  ∀ s t : State, s.params.Legal → exec .parseData s = .next t → t.ckOk = true →
    ∃ u, exec .fmtAck t = .next u ∧ LE32At u 2 = LE32At s 2 ∧ LE32At u 6 = LE32At s 6 ∧
      (∀ i, 10 ≤ i → u.fb i = 0#8) ∧ ChecksumValid u ∧ (∀ j, u.pb j = t.pb j)

/-- 30_encoding.md R87, CHECK: `cmd VERIFY`, then `rd STATUS`: the frame is valid exactly when bit 0 of what is read
is 1. -/
def Obligations.CheckReadsTheValidityOfTheFrame : Prop :=
  ∀ (s : State) (rest : List Input), s.params.Legal →
    s.pending = .access (Line.cmd .verify).access :: .access (Line.rd .status).access :: rest →
    ∃ t u v, step s = .next t ∧ step t = .next u ∧ u.reply = .word v ∧
      (v.getLsbD 0 = true ↔ ChecksumValid s)

/-! ## Fragment family -/

/-- 43_fragment.md R162 with R160: FRAG_COUNT of an accepted size gives `ceil((n + 4) / CAP)`, not wrapped; of a size
above `MAXMSG` it reports `OVERSIZE` and changes nothing else. -/
def Obligations.FragCountWritesTheCount : Prop :=
  ∀ s : State, s.params.Legal →
    (s.msgLen.toNat ≤ s.params.maxMsg →
      ∃ t, exec .fragCount s = .next t ∧
        t.fragCnt.toNat =
          (s.msgLen.toNat + 4 + (s.params.frameSize - 11) - 1) / (s.params.frameSize - 11) ∧
        StatusAfter s t s.ckOk s.hasTotal 0#4 ∧ t = { s with fragCnt := t.fragCnt, status := t.status }) ∧
    (s.params.maxMsg < s.msgLen.toNat →
      ∃ t, exec .fragCount s = .next t ∧ StatusAfter s t s.ckOk s.hasTotal 5#4 ∧ t = { s with status := t.status })

/-- 43_fragment.md R163 with R160 and R161: FRAG_SLICE, in its three outcomes. -/
def Obligations.FragSliceLocatesTheFragment : Prop :=
  ∀ (s : State) (n k cap cnt : Nat), s.params.Legal → n = s.msgLen.toNat → k = s.fragIdx.toNat →
    cap = s.params.frameSize - 11 → cnt = (n + 4 + cap - 1) / cap →
    (s.params.maxMsg < n →
      ∃ t, exec .fragSlice s = .next t ∧ StatusAfter s t s.ckOk s.hasTotal 5#4 ∧ t = { s with status := t.status }) ∧
    (n ≤ s.params.maxMsg → cnt ≤ k →
      ∃ t, exec .fragSlice s = .next t ∧ t.fragCnt.toNat = cnt ∧ StatusAfter s t s.ckOk s.hasTotal 6#4 ∧
        t = { s with fragCnt := t.fragCnt, status := t.status }) ∧
    (n ≤ s.params.maxMsg → k < cnt →
      ∃ t, exec .fragSlice s = .next t ∧ t.fragCnt.toNat = cnt ∧
        t.sliceOff.toNat = (if k = 0 then 0 else k * cap - 4) ∧
        t.sliceLen.toNat = (if k = 0 then min n (cap - 4) else min cap (n - (k * cap - 4))) ∧
        StatusAfter s t s.ckOk s.hasTotal 0#4 ∧
        t = { s with fragCnt := t.fragCnt, sliceOff := t.sliceOff, sliceLen := t.sliceLen, status := t.status })

/-- 43_fragment.md R164: the slices FRAG_SLICE gives for the `N = FRAGCNT` fragments of an accepted message tile it:
they start at 0, follow each other without gap, end at the message's end, are full but for the last, which is not
empty unless the message is, sum to the message's size, and no smaller number of frames holds the message. -/
def Obligations.SlicesTileTheMessage : Prop :=
  ∀ s : State, s.params.Legal → s.msgLen.toNat ≤ s.params.maxMsg →
    ∃ (N : Nat) (off len : Nat → Nat), 1 ≤ N ∧ off 0 = 0 ∧
      (∀ k, k < N → ∃ t, exec .fragSlice { s with fragIdx := BitVec.ofNat 32 k } = .next t ∧ t.err = 0#4 ∧
        t.fragCnt.toNat = N ∧ t.sliceOff.toNat = off k ∧ t.sliceLen.toNat = len k) ∧
      (∀ k, k < N → len k ≤ frameCap s k) ∧
      (∀ k, k + 1 < N → len k = frameCap s k ∧ off (k + 1) = off k + len k) ∧
      off (N - 1) + len (N - 1) = s.msgLen.toNat ∧ (s.msgLen.toNat ≠ 0 → 1 ≤ len (N - 1)) ∧
      ∑ k ∈ Finset.range N, len k = s.msgLen.toNat ∧
      (∀ M, s.msgLen.toNat ≤ ∑ k ∈ Finset.range M, frameCap s k → 1 ≤ M → N ≤ M)

/-- 43_fragment.md R165: the empty message is one fragment, at offset 0 and of length 0. -/
def Obligations.EmptyMessageIsOneEmptyFragment : Prop :=
  ∀ s : State, s.params.Legal → s.msgLen = 0#32 →
    (∃ t, exec .fragCount s = .next t ∧ t.err = 0#4 ∧ t.fragCnt = 1#32) ∧
    (s.fragIdx = 0#32 → ∃ t, exec .fragSlice s = .next t ∧ t.err = 0#4 ∧ t.fragCnt = 1#32 ∧
      t.sliceOff = 0#32 ∧ t.sliceLen = 0#8)

/-- 43_fragment.md R163 and R164 against 41_format.md R120: the slice FRAG_SLICE locates is one FMT_DATA accepts, with
`FRAGSEQ = FRAGIDX` and `PLEN = SLICE_LEN`. -/
def Obligations.LocatedSlicesCanBeFormatted : Prop :=
  ∀ s t : State, s.params.Legal → exec .fragSlice s = .next t → t.err = 0#4 →
    ∃ u, exec .fmtData { t with fragSeq := t.fragIdx, plen := t.sliceLen } = .next u ∧ u.err = 0#4

/-! ## Control family and whole-machine rules -/

/-- 44_control.md R180: NOP writes `ERR <- NONE` and nothing else. -/
def Obligations.NopClearsErrOnly : Prop :=
  ∀ s : State, ∃ t, exec .nop s = .next t ∧ StatusAfter s t s.ckOk s.hasTotal 0#4 ∧ t = { s with status := t.status }

/-- 44_control.md R181: after CLEAR every buffer byte and register is 0 and the constants keep their values; from a
sound state the block is in its reset state. The inputs still to come and the data returned are outside the block
(log 11). -/
def Obligations.ClearReturnsToTheResetState : Prop :=
  (∀ s : State, ∃ t, exec .clear s = .next t ∧ (∀ i, t.fb i = 0#8) ∧ (∀ j, t.pb j = 0#8) ∧
    t.params = s.params ∧ StatusAfter s t false false 0#4 ∧
    t.csumResult = 0#16 ∧ t.msgSeq = 0#32 ∧ t.fragSeq = 0#32 ∧ t.plen = 0#8 ∧ t.totSize = 0#32 ∧ t.msgLen = 0#32 ∧
    t.fragIdx = 0#32 ∧ t.fragCnt = 0#32 ∧ t.sliceOff = 0#32 ∧ t.sliceLen = 0#8) ∧
  (∀ s : State, Sound s →
    exec .clear s = .next { State.resetOf s.params with pending := s.pending, reply := s.reply })

/-- 60_exceptions.md R201, the column "raised by": each error code comes only from the commands named, and codes 1 and
7 to 15 from no legal command. -/
def Obligations.ErrorCodesComeFromTheirCommands : Prop :=
  ∀ (i : Instr) (s t : State), exec i s = .next t →
    t.err.toNat ≤ 6 ∧ t.err ≠ 1#4 ∧
    (t.err = 2#4 → i ∈ [Instr.verify, .parseData, .parseAck]) ∧
    (t.err = 3#4 → i ∈ [Instr.parseData, .parseAck]) ∧
    (t.err = 4#4 → i = .fmtData) ∧ (t.err = 5#4 → i ∈ [Instr.fragCount, .fragSlice]) ∧
    (t.err = 6#4 → i = .fragSlice)

/-- 60_exceptions.md R202: when several conditions hold, `BAD_CHECKSUM` is reported before `MALFORMED` and `OVERSIZE`
before `FRAG_RANGE`. -/
def Obligations.FirstErrorConditionIsReported : Prop :=
  (∀ s : State, ¬ ChecksumValid s → frameCap s (LE32At s 6) < (s.fb 10).toNat →
    ∃ t, exec .parseData s = .next t ∧ t.err = 2#4) ∧
  (∀ s : State, ¬ ChecksumValid s → s.fb 10 ≠ 0#8 → ∃ t, exec .parseAck s = .next t ∧ t.err = 2#4) ∧
  (∀ s : State, s.params.maxMsg < s.msgLen.toNat → s.countOf s.msgLen.toNat ≤ s.fragIdx.toNat →
    ∃ t, exec .fragSlice s = .next t ∧ t.err = 5#4)

/-- 60_exceptions.md R206: no stickiness: what `STATUS` held before a command does not enter the code it reports, nor
anything else it writes outside `STATUS`. -/
def Obligations.ErrorsAreNotSticky : Prop :=
  ∀ (i : Instr) (s t u : State) (v : BitVec 8), exec i s = .next t → exec i { s with status := v } = .next u →
    u.err = t.err ∧ u = { t with status := u.status }

/-- 10_state.md R27: `CK_OK` is written only by VERIFY, PARSE_DATA and PARSE_ACK, `HAS_TOTAL` only by PARSE_DATA and
PARSE_ACK (CLEAR returns both to 0, 44_control.md R181), the reserved bits by nothing. -/
def Obligations.StatusFieldsAreWrittenOnlyByTheirCommands : Prop :=
  ∀ (i : Instr) (s t : State), exec i s = .next t →
    t.statusReserved = s.statusReserved ∧
    (t.ckOk ≠ s.ckOk → i ∈ [Instr.verify, .parseData, .parseAck, .clear]) ∧
    (t.hasTotal ≠ s.hasTotal → i ∈ [Instr.parseData, .parseAck, .clear])

/-- 30_encoding.md R84, the column "writes": no command changes a register other than `STATUS`, or a buffer, that its
row does not list. `FB` is written only by SEAL (its first two bytes), the formatters and CLEAR, `PB` only by
PARSE_DATA and CLEAR (in a legal instance, whose two windows do not overlap), and no other memory by any. In particular
no command but CLEAR writes `MSGLEN` or `FRAGIDX` (10_state.md R34, R35) and none but PARSE_DATA and CLEAR writes
`TOTSIZE` (R33). What writes the fields of `STATUS` is `StatusFieldsAreWrittenOnlyByTheirCommands`. -/
def Obligations.CommandsWriteOnlyTheirOperands : Prop :=
  ∀ (i : Instr) (s t : State), exec i s = .next t →
    (t.csumResult ≠ s.csumResult →
      i ∈ [Instr.csum, .verify, .sealFrame, .fmtData, .fmtAck, .parseData, .parseAck, .clear]) ∧
    (t.msgSeq ≠ s.msgSeq ∨ t.fragSeq ≠ s.fragSeq ∨ t.plen ≠ s.plen →
      i ∈ [Instr.parseData, .parseAck, .clear]) ∧
    (t.totSize ≠ s.totSize → i ∈ [Instr.parseData, .clear]) ∧
    (t.msgLen ≠ s.msgLen ∨ t.fragIdx ≠ s.fragIdx → i = .clear) ∧
    (t.fragCnt ≠ s.fragCnt → i ∈ [Instr.fragCount, .fragSlice, .clear]) ∧
    (t.sliceOff ≠ s.sliceOff ∨ t.sliceLen ≠ s.sliceLen → i ∈ [Instr.fragSlice, .clear]) ∧
    (t.mem ≠ s.mem → i ∈ [Instr.sealFrame, .fmtData, .fmtAck, .parseData, .clear]) ∧
    (s.params.Legal → (∃ k, t.fb k ≠ s.fb k) → i ∈ [Instr.sealFrame, .fmtData, .fmtAck, .clear]) ∧
    (s.params.Legal → (∃ k, 2 ≤ k ∧ t.fb k ≠ s.fb k) → i ∈ [Instr.fmtData, .fmtAck, .clear]) ∧
    (s.params.Legal → (∃ j, t.pb j ≠ s.pb j) → i ∈ [Instr.parseData, .clear])
end

