-- ==== Sys2Proof/Laws/State.lean ====
section
/-! SUPPORT. One lemma per field per update: what each update of the state leaves in each field. Tagged simp, so
that no later proof unfolds a record update. -/

namespace Sys2Proof.Machine

open Sys2Proof

/-! ### `setErr` -/

@[simp] theorem State.setErr_params (s : State) (c : ErrCode) : (s.setErr c).params = s.params := rfl
@[simp] theorem State.setErr_mem (s : State) (c : ErrCode) : (s.setErr c).mem = s.mem := rfl
@[simp] theorem State.setErr_csumResult (s : State) (c : ErrCode) : (s.setErr c).csumResult = s.csumResult := rfl
@[simp] theorem State.setErr_msgSeq (s : State) (c : ErrCode) : (s.setErr c).msgSeq = s.msgSeq := rfl
@[simp] theorem State.setErr_fragSeq (s : State) (c : ErrCode) : (s.setErr c).fragSeq = s.fragSeq := rfl
@[simp] theorem State.setErr_plen (s : State) (c : ErrCode) : (s.setErr c).plen = s.plen := rfl
@[simp] theorem State.setErr_totSize (s : State) (c : ErrCode) : (s.setErr c).totSize = s.totSize := rfl
@[simp] theorem State.setErr_msgLen (s : State) (c : ErrCode) : (s.setErr c).msgLen = s.msgLen := rfl
@[simp] theorem State.setErr_fragIdx (s : State) (c : ErrCode) : (s.setErr c).fragIdx = s.fragIdx := rfl
@[simp] theorem State.setErr_fragCnt (s : State) (c : ErrCode) : (s.setErr c).fragCnt = s.fragCnt := rfl
@[simp] theorem State.setErr_sliceOff (s : State) (c : ErrCode) : (s.setErr c).sliceOff = s.sliceOff := rfl
@[simp] theorem State.setErr_sliceLen (s : State) (c : ErrCode) : (s.setErr c).sliceLen = s.sliceLen := rfl
@[simp] theorem State.setErr_pending (s : State) (c : ErrCode) : (s.setErr c).pending = s.pending := rfl
@[simp] theorem State.setErr_reply (s : State) (c : ErrCode) : (s.setErr c).reply = s.reply := rfl

/-! ### `setCkOk` -/

@[simp] theorem State.setCkOk_params (s : State) (b : Bool) : (s.setCkOk b).params = s.params := rfl
@[simp] theorem State.setCkOk_mem (s : State) (b : Bool) : (s.setCkOk b).mem = s.mem := rfl
@[simp] theorem State.setCkOk_csumResult (s : State) (b : Bool) : (s.setCkOk b).csumResult = s.csumResult := rfl
@[simp] theorem State.setCkOk_msgSeq (s : State) (b : Bool) : (s.setCkOk b).msgSeq = s.msgSeq := rfl
@[simp] theorem State.setCkOk_fragSeq (s : State) (b : Bool) : (s.setCkOk b).fragSeq = s.fragSeq := rfl
@[simp] theorem State.setCkOk_plen (s : State) (b : Bool) : (s.setCkOk b).plen = s.plen := rfl
@[simp] theorem State.setCkOk_totSize (s : State) (b : Bool) : (s.setCkOk b).totSize = s.totSize := rfl
@[simp] theorem State.setCkOk_msgLen (s : State) (b : Bool) : (s.setCkOk b).msgLen = s.msgLen := rfl
@[simp] theorem State.setCkOk_fragIdx (s : State) (b : Bool) : (s.setCkOk b).fragIdx = s.fragIdx := rfl
@[simp] theorem State.setCkOk_fragCnt (s : State) (b : Bool) : (s.setCkOk b).fragCnt = s.fragCnt := rfl
@[simp] theorem State.setCkOk_sliceOff (s : State) (b : Bool) : (s.setCkOk b).sliceOff = s.sliceOff := rfl
@[simp] theorem State.setCkOk_sliceLen (s : State) (b : Bool) : (s.setCkOk b).sliceLen = s.sliceLen := rfl
@[simp] theorem State.setCkOk_pending (s : State) (b : Bool) : (s.setCkOk b).pending = s.pending := rfl
@[simp] theorem State.setCkOk_reply (s : State) (b : Bool) : (s.setCkOk b).reply = s.reply := rfl

/-! ### `setHasTotal` -/

@[simp] theorem State.setHasTotal_params (s : State) (b : Bool) : (s.setHasTotal b).params = s.params := rfl
@[simp] theorem State.setHasTotal_mem (s : State) (b : Bool) : (s.setHasTotal b).mem = s.mem := rfl
@[simp] theorem State.setHasTotal_csumResult (s : State) (b : Bool) : (s.setHasTotal b).csumResult = s.csumResult := rfl
@[simp] theorem State.setHasTotal_msgSeq (s : State) (b : Bool) : (s.setHasTotal b).msgSeq = s.msgSeq := rfl
@[simp] theorem State.setHasTotal_fragSeq (s : State) (b : Bool) : (s.setHasTotal b).fragSeq = s.fragSeq := rfl
@[simp] theorem State.setHasTotal_plen (s : State) (b : Bool) : (s.setHasTotal b).plen = s.plen := rfl
@[simp] theorem State.setHasTotal_totSize (s : State) (b : Bool) : (s.setHasTotal b).totSize = s.totSize := rfl
@[simp] theorem State.setHasTotal_msgLen (s : State) (b : Bool) : (s.setHasTotal b).msgLen = s.msgLen := rfl
@[simp] theorem State.setHasTotal_fragIdx (s : State) (b : Bool) : (s.setHasTotal b).fragIdx = s.fragIdx := rfl
@[simp] theorem State.setHasTotal_fragCnt (s : State) (b : Bool) : (s.setHasTotal b).fragCnt = s.fragCnt := rfl
@[simp] theorem State.setHasTotal_sliceOff (s : State) (b : Bool) : (s.setHasTotal b).sliceOff = s.sliceOff := rfl
@[simp] theorem State.setHasTotal_sliceLen (s : State) (b : Bool) : (s.setHasTotal b).sliceLen = s.sliceLen := rfl
@[simp] theorem State.setHasTotal_pending (s : State) (b : Bool) : (s.setHasTotal b).pending = s.pending := rfl
@[simp] theorem State.setHasTotal_reply (s : State) (b : Bool) : (s.setHasTotal b).reply = s.reply := rfl

/-! ### `fillFb` -/

@[simp] theorem State.fillFb_params (s : State) (a : Nat) (f : Nat → Byte) (n : Nat) : (s.fillFb a f n).params = s.params := rfl
@[simp] theorem State.fillFb_mem (s : State) (a : Nat) (f : Nat → Byte) (n : Nat) : (s.fillFb a f n).mem = Memory.writeRun s.mem (fbBase + a) f n := rfl
@[simp] theorem State.fillFb_status (s : State) (a : Nat) (f : Nat → Byte) (n : Nat) : (s.fillFb a f n).status = s.status := rfl
@[simp] theorem State.fillFb_csumResult (s : State) (a : Nat) (f : Nat → Byte) (n : Nat) : (s.fillFb a f n).csumResult = s.csumResult := rfl
@[simp] theorem State.fillFb_msgSeq (s : State) (a : Nat) (f : Nat → Byte) (n : Nat) : (s.fillFb a f n).msgSeq = s.msgSeq := rfl
@[simp] theorem State.fillFb_fragSeq (s : State) (a : Nat) (f : Nat → Byte) (n : Nat) : (s.fillFb a f n).fragSeq = s.fragSeq := rfl
@[simp] theorem State.fillFb_plen (s : State) (a : Nat) (f : Nat → Byte) (n : Nat) : (s.fillFb a f n).plen = s.plen := rfl
@[simp] theorem State.fillFb_totSize (s : State) (a : Nat) (f : Nat → Byte) (n : Nat) : (s.fillFb a f n).totSize = s.totSize := rfl
@[simp] theorem State.fillFb_msgLen (s : State) (a : Nat) (f : Nat → Byte) (n : Nat) : (s.fillFb a f n).msgLen = s.msgLen := rfl
@[simp] theorem State.fillFb_fragIdx (s : State) (a : Nat) (f : Nat → Byte) (n : Nat) : (s.fillFb a f n).fragIdx = s.fragIdx := rfl
@[simp] theorem State.fillFb_fragCnt (s : State) (a : Nat) (f : Nat → Byte) (n : Nat) : (s.fillFb a f n).fragCnt = s.fragCnt := rfl
@[simp] theorem State.fillFb_sliceOff (s : State) (a : Nat) (f : Nat → Byte) (n : Nat) : (s.fillFb a f n).sliceOff = s.sliceOff := rfl
@[simp] theorem State.fillFb_sliceLen (s : State) (a : Nat) (f : Nat → Byte) (n : Nat) : (s.fillFb a f n).sliceLen = s.sliceLen := rfl
@[simp] theorem State.fillFb_pending (s : State) (a : Nat) (f : Nat → Byte) (n : Nat) : (s.fillFb a f n).pending = s.pending := rfl
@[simp] theorem State.fillFb_reply (s : State) (a : Nat) (f : Nat → Byte) (n : Nat) : (s.fillFb a f n).reply = s.reply := rfl

/-! ### `fillPb` -/

@[simp] theorem State.fillPb_params (s : State) (f : Nat → Byte) : (s.fillPb f).params = s.params := rfl
@[simp] theorem State.fillPb_mem (s : State) (f : Nat → Byte) : (s.fillPb f).mem = Memory.writeRun s.mem pbBase f s.capacity := rfl
@[simp] theorem State.fillPb_status (s : State) (f : Nat → Byte) : (s.fillPb f).status = s.status := rfl
@[simp] theorem State.fillPb_csumResult (s : State) (f : Nat → Byte) : (s.fillPb f).csumResult = s.csumResult := rfl
@[simp] theorem State.fillPb_msgSeq (s : State) (f : Nat → Byte) : (s.fillPb f).msgSeq = s.msgSeq := rfl
@[simp] theorem State.fillPb_fragSeq (s : State) (f : Nat → Byte) : (s.fillPb f).fragSeq = s.fragSeq := rfl
@[simp] theorem State.fillPb_plen (s : State) (f : Nat → Byte) : (s.fillPb f).plen = s.plen := rfl
@[simp] theorem State.fillPb_totSize (s : State) (f : Nat → Byte) : (s.fillPb f).totSize = s.totSize := rfl
@[simp] theorem State.fillPb_msgLen (s : State) (f : Nat → Byte) : (s.fillPb f).msgLen = s.msgLen := rfl
@[simp] theorem State.fillPb_fragIdx (s : State) (f : Nat → Byte) : (s.fillPb f).fragIdx = s.fragIdx := rfl
@[simp] theorem State.fillPb_fragCnt (s : State) (f : Nat → Byte) : (s.fillPb f).fragCnt = s.fragCnt := rfl
@[simp] theorem State.fillPb_sliceOff (s : State) (f : Nat → Byte) : (s.fillPb f).sliceOff = s.sliceOff := rfl
@[simp] theorem State.fillPb_sliceLen (s : State) (f : Nat → Byte) : (s.fillPb f).sliceLen = s.sliceLen := rfl
@[simp] theorem State.fillPb_pending (s : State) (f : Nat → Byte) : (s.fillPb f).pending = s.pending := rfl
@[simp] theorem State.fillPb_reply (s : State) (f : Nat → Byte) : (s.fillPb f).reply = s.reply := rfl

/-! ### `recordCsum` -/

@[simp] theorem State.recordCsum_params (s : State) : s.recordCsum.params = s.params := rfl
@[simp] theorem State.recordCsum_mem (s : State) : s.recordCsum.mem = s.mem := rfl
@[simp] theorem State.recordCsum_status (s : State) : s.recordCsum.status = s.status := rfl
@[simp] theorem State.recordCsum_csumResult (s : State) : s.recordCsum.csumResult = s.csum := rfl
@[simp] theorem State.recordCsum_msgSeq (s : State) : s.recordCsum.msgSeq = s.msgSeq := rfl
@[simp] theorem State.recordCsum_fragSeq (s : State) : s.recordCsum.fragSeq = s.fragSeq := rfl
@[simp] theorem State.recordCsum_plen (s : State) : s.recordCsum.plen = s.plen := rfl
@[simp] theorem State.recordCsum_totSize (s : State) : s.recordCsum.totSize = s.totSize := rfl
@[simp] theorem State.recordCsum_msgLen (s : State) : s.recordCsum.msgLen = s.msgLen := rfl
@[simp] theorem State.recordCsum_fragIdx (s : State) : s.recordCsum.fragIdx = s.fragIdx := rfl
@[simp] theorem State.recordCsum_fragCnt (s : State) : s.recordCsum.fragCnt = s.fragCnt := rfl
@[simp] theorem State.recordCsum_sliceOff (s : State) : s.recordCsum.sliceOff = s.sliceOff := rfl
@[simp] theorem State.recordCsum_sliceLen (s : State) : s.recordCsum.sliceLen = s.sliceLen := rfl
@[simp] theorem State.recordCsum_pending (s : State) : s.recordCsum.pending = s.pending := rfl
@[simp] theorem State.recordCsum_reply (s : State) : s.recordCsum.reply = s.reply := rfl

/-! ### `loadHeader` -/

@[simp] theorem State.loadHeader_params (s : State) : s.loadHeader.params = s.params := rfl
@[simp] theorem State.loadHeader_mem (s : State) : s.loadHeader.mem = s.mem := rfl
@[simp] theorem State.loadHeader_status (s : State) : s.loadHeader.status = s.status := rfl
@[simp] theorem State.loadHeader_csumResult (s : State) : s.loadHeader.csumResult = s.csumResult := rfl
@[simp] theorem State.loadHeader_msgSeq (s : State) : s.loadHeader.msgSeq = s.frameMsgSeq := rfl
@[simp] theorem State.loadHeader_fragSeq (s : State) : s.loadHeader.fragSeq = s.frameFragSeq := rfl
@[simp] theorem State.loadHeader_plen (s : State) : s.loadHeader.plen = s.framePlen := rfl
@[simp] theorem State.loadHeader_totSize (s : State) : s.loadHeader.totSize = s.totSize := rfl
@[simp] theorem State.loadHeader_msgLen (s : State) : s.loadHeader.msgLen = s.msgLen := rfl
@[simp] theorem State.loadHeader_fragIdx (s : State) : s.loadHeader.fragIdx = s.fragIdx := rfl
@[simp] theorem State.loadHeader_fragCnt (s : State) : s.loadHeader.fragCnt = s.fragCnt := rfl
@[simp] theorem State.loadHeader_sliceOff (s : State) : s.loadHeader.sliceOff = s.sliceOff := rfl
@[simp] theorem State.loadHeader_sliceLen (s : State) : s.loadHeader.sliceLen = s.sliceLen := rfl
@[simp] theorem State.loadHeader_pending (s : State) : s.loadHeader.pending = s.pending := rfl
@[simp] theorem State.loadHeader_reply (s : State) : s.loadHeader.reply = s.reply := rfl

/-! ### `recordCount` -/

@[simp] theorem State.recordCount_params (s : State) : s.recordCount.params = s.params := rfl
@[simp] theorem State.recordCount_mem (s : State) : s.recordCount.mem = s.mem := rfl
@[simp] theorem State.recordCount_status (s : State) : s.recordCount.status = s.status := rfl
@[simp] theorem State.recordCount_csumResult (s : State) : s.recordCount.csumResult = s.csumResult := rfl
@[simp] theorem State.recordCount_msgSeq (s : State) : s.recordCount.msgSeq = s.msgSeq := rfl
@[simp] theorem State.recordCount_fragSeq (s : State) : s.recordCount.fragSeq = s.fragSeq := rfl
@[simp] theorem State.recordCount_plen (s : State) : s.recordCount.plen = s.plen := rfl
@[simp] theorem State.recordCount_totSize (s : State) : s.recordCount.totSize = s.totSize := rfl
@[simp] theorem State.recordCount_msgLen (s : State) : s.recordCount.msgLen = s.msgLen := rfl
@[simp] theorem State.recordCount_fragIdx (s : State) : s.recordCount.fragIdx = s.fragIdx := rfl
@[simp] theorem State.recordCount_fragCnt (s : State) : s.recordCount.fragCnt = BitVec.ofNat 32 (s.countOf s.msgLen.toNat) := rfl
@[simp] theorem State.recordCount_sliceOff (s : State) : s.recordCount.sliceOff = s.sliceOff := rfl
@[simp] theorem State.recordCount_sliceLen (s : State) : s.recordCount.sliceLen = s.sliceLen := rfl
@[simp] theorem State.recordCount_pending (s : State) : s.recordCount.pending = s.pending := rfl
@[simp] theorem State.recordCount_reply (s : State) : s.recordCount.reply = s.reply := rfl

/-! ### `recordSlice` -/

@[simp] theorem State.recordSlice_params (s : State) : s.recordSlice.params = s.params := rfl
@[simp] theorem State.recordSlice_mem (s : State) : s.recordSlice.mem = s.mem := rfl
@[simp] theorem State.recordSlice_status (s : State) : s.recordSlice.status = s.status := rfl
@[simp] theorem State.recordSlice_csumResult (s : State) : s.recordSlice.csumResult = s.csumResult := rfl
@[simp] theorem State.recordSlice_msgSeq (s : State) : s.recordSlice.msgSeq = s.msgSeq := rfl
@[simp] theorem State.recordSlice_fragSeq (s : State) : s.recordSlice.fragSeq = s.fragSeq := rfl
@[simp] theorem State.recordSlice_plen (s : State) : s.recordSlice.plen = s.plen := rfl
@[simp] theorem State.recordSlice_totSize (s : State) : s.recordSlice.totSize = s.totSize := rfl
@[simp] theorem State.recordSlice_msgLen (s : State) : s.recordSlice.msgLen = s.msgLen := rfl
@[simp] theorem State.recordSlice_fragIdx (s : State) : s.recordSlice.fragIdx = s.fragIdx := rfl
@[simp] theorem State.recordSlice_fragCnt (s : State) : s.recordSlice.fragCnt = s.fragCnt := rfl
@[simp] theorem State.recordSlice_sliceOff (s : State) : s.recordSlice.sliceOff = BitVec.ofNat 32 (s.offOf s.fragIdx.toNat) := rfl
@[simp] theorem State.recordSlice_sliceLen (s : State) : s.recordSlice.sliceLen = BitVec.ofNat 8 (s.lenOf s.msgLen.toNat s.fragIdx.toNat) := rfl
@[simp] theorem State.recordSlice_pending (s : State) : s.recordSlice.pending = s.pending := rfl
@[simp] theorem State.recordSlice_reply (s : State) : s.recordSlice.reply = s.reply := rfl

/-! ### `answer` -/

@[simp] theorem State.answer_params (s : State) (r : Reply) : (s.answer r).params = s.params := rfl
@[simp] theorem State.answer_mem (s : State) (r : Reply) : (s.answer r).mem = s.mem := rfl
@[simp] theorem State.answer_status (s : State) (r : Reply) : (s.answer r).status = s.status := rfl
@[simp] theorem State.answer_csumResult (s : State) (r : Reply) : (s.answer r).csumResult = s.csumResult := rfl
@[simp] theorem State.answer_msgSeq (s : State) (r : Reply) : (s.answer r).msgSeq = s.msgSeq := rfl
@[simp] theorem State.answer_fragSeq (s : State) (r : Reply) : (s.answer r).fragSeq = s.fragSeq := rfl
@[simp] theorem State.answer_plen (s : State) (r : Reply) : (s.answer r).plen = s.plen := rfl
@[simp] theorem State.answer_totSize (s : State) (r : Reply) : (s.answer r).totSize = s.totSize := rfl
@[simp] theorem State.answer_msgLen (s : State) (r : Reply) : (s.answer r).msgLen = s.msgLen := rfl
@[simp] theorem State.answer_fragIdx (s : State) (r : Reply) : (s.answer r).fragIdx = s.fragIdx := rfl
@[simp] theorem State.answer_fragCnt (s : State) (r : Reply) : (s.answer r).fragCnt = s.fragCnt := rfl
@[simp] theorem State.answer_sliceOff (s : State) (r : Reply) : (s.answer r).sliceOff = s.sliceOff := rfl
@[simp] theorem State.answer_sliceLen (s : State) (r : Reply) : (s.answer r).sliceLen = s.sliceLen := rfl
@[simp] theorem State.answer_pending (s : State) (r : Reply) : (s.answer r).pending = s.pending := rfl
@[simp] theorem State.answer_reply (s : State) (r : Reply) : (s.answer r).reply = r := rfl

/-! ### `post` -/

@[simp] theorem State.post_params (s : State) (i : Input) : (s.post i).params = s.params := rfl
@[simp] theorem State.post_mem (s : State) (i : Input) : (s.post i).mem = s.mem := rfl
@[simp] theorem State.post_status (s : State) (i : Input) : (s.post i).status = s.status := rfl
@[simp] theorem State.post_csumResult (s : State) (i : Input) : (s.post i).csumResult = s.csumResult := rfl
@[simp] theorem State.post_msgSeq (s : State) (i : Input) : (s.post i).msgSeq = s.msgSeq := rfl
@[simp] theorem State.post_fragSeq (s : State) (i : Input) : (s.post i).fragSeq = s.fragSeq := rfl
@[simp] theorem State.post_plen (s : State) (i : Input) : (s.post i).plen = s.plen := rfl
@[simp] theorem State.post_totSize (s : State) (i : Input) : (s.post i).totSize = s.totSize := rfl
@[simp] theorem State.post_msgLen (s : State) (i : Input) : (s.post i).msgLen = s.msgLen := rfl
@[simp] theorem State.post_fragIdx (s : State) (i : Input) : (s.post i).fragIdx = s.fragIdx := rfl
@[simp] theorem State.post_fragCnt (s : State) (i : Input) : (s.post i).fragCnt = s.fragCnt := rfl
@[simp] theorem State.post_sliceOff (s : State) (i : Input) : (s.post i).sliceOff = s.sliceOff := rfl
@[simp] theorem State.post_sliceLen (s : State) (i : Input) : (s.post i).sliceLen = s.sliceLen := rfl
@[simp] theorem State.post_pending (s : State) (i : Input) : (s.post i).pending = i :: s.pending := rfl
@[simp] theorem State.post_reply (s : State) (i : Input) : (s.post i).reply = s.reply := rfl

/-! ### `setFb` -/

@[simp] theorem State.setFb_params (s : State) (i : Nat) (b : Byte) : (s.setFb i b).params = s.params := by
  unfold State.setFb; split <;> rfl
@[simp] theorem State.setFb_status (s : State) (i : Nat) (b : Byte) : (s.setFb i b).status = s.status := by
  unfold State.setFb; split <;> rfl
@[simp] theorem State.setFb_csumResult (s : State) (i : Nat) (b : Byte) : (s.setFb i b).csumResult = s.csumResult := by
  unfold State.setFb; split <;> rfl
@[simp] theorem State.setFb_msgSeq (s : State) (i : Nat) (b : Byte) : (s.setFb i b).msgSeq = s.msgSeq := by
  unfold State.setFb; split <;> rfl
@[simp] theorem State.setFb_fragSeq (s : State) (i : Nat) (b : Byte) : (s.setFb i b).fragSeq = s.fragSeq := by
  unfold State.setFb; split <;> rfl
@[simp] theorem State.setFb_plen (s : State) (i : Nat) (b : Byte) : (s.setFb i b).plen = s.plen := by
  unfold State.setFb; split <;> rfl
@[simp] theorem State.setFb_totSize (s : State) (i : Nat) (b : Byte) : (s.setFb i b).totSize = s.totSize := by
  unfold State.setFb; split <;> rfl
@[simp] theorem State.setFb_msgLen (s : State) (i : Nat) (b : Byte) : (s.setFb i b).msgLen = s.msgLen := by
  unfold State.setFb; split <;> rfl
@[simp] theorem State.setFb_fragIdx (s : State) (i : Nat) (b : Byte) : (s.setFb i b).fragIdx = s.fragIdx := by
  unfold State.setFb; split <;> rfl
@[simp] theorem State.setFb_fragCnt (s : State) (i : Nat) (b : Byte) : (s.setFb i b).fragCnt = s.fragCnt := by
  unfold State.setFb; split <;> rfl
@[simp] theorem State.setFb_sliceOff (s : State) (i : Nat) (b : Byte) : (s.setFb i b).sliceOff = s.sliceOff := by
  unfold State.setFb; split <;> rfl
@[simp] theorem State.setFb_sliceLen (s : State) (i : Nat) (b : Byte) : (s.setFb i b).sliceLen = s.sliceLen := by
  unfold State.setFb; split <;> rfl
@[simp] theorem State.setFb_pending (s : State) (i : Nat) (b : Byte) : (s.setFb i b).pending = s.pending := by
  unfold State.setFb; split <;> rfl
@[simp] theorem State.setFb_reply (s : State) (i : Nat) (b : Byte) : (s.setFb i b).reply = s.reply := by
  unfold State.setFb; split <;> rfl

/-! ### `setPb` -/

@[simp] theorem State.setPb_params (s : State) (j : Nat) (b : Byte) : (s.setPb j b).params = s.params := by
  unfold State.setPb; split <;> rfl
@[simp] theorem State.setPb_status (s : State) (j : Nat) (b : Byte) : (s.setPb j b).status = s.status := by
  unfold State.setPb; split <;> rfl
@[simp] theorem State.setPb_csumResult (s : State) (j : Nat) (b : Byte) : (s.setPb j b).csumResult = s.csumResult := by
  unfold State.setPb; split <;> rfl
@[simp] theorem State.setPb_msgSeq (s : State) (j : Nat) (b : Byte) : (s.setPb j b).msgSeq = s.msgSeq := by
  unfold State.setPb; split <;> rfl
@[simp] theorem State.setPb_fragSeq (s : State) (j : Nat) (b : Byte) : (s.setPb j b).fragSeq = s.fragSeq := by
  unfold State.setPb; split <;> rfl
@[simp] theorem State.setPb_plen (s : State) (j : Nat) (b : Byte) : (s.setPb j b).plen = s.plen := by
  unfold State.setPb; split <;> rfl
@[simp] theorem State.setPb_totSize (s : State) (j : Nat) (b : Byte) : (s.setPb j b).totSize = s.totSize := by
  unfold State.setPb; split <;> rfl
@[simp] theorem State.setPb_msgLen (s : State) (j : Nat) (b : Byte) : (s.setPb j b).msgLen = s.msgLen := by
  unfold State.setPb; split <;> rfl
@[simp] theorem State.setPb_fragIdx (s : State) (j : Nat) (b : Byte) : (s.setPb j b).fragIdx = s.fragIdx := by
  unfold State.setPb; split <;> rfl
@[simp] theorem State.setPb_fragCnt (s : State) (j : Nat) (b : Byte) : (s.setPb j b).fragCnt = s.fragCnt := by
  unfold State.setPb; split <;> rfl
@[simp] theorem State.setPb_sliceOff (s : State) (j : Nat) (b : Byte) : (s.setPb j b).sliceOff = s.sliceOff := by
  unfold State.setPb; split <;> rfl
@[simp] theorem State.setPb_sliceLen (s : State) (j : Nat) (b : Byte) : (s.setPb j b).sliceLen = s.sliceLen := by
  unfold State.setPb; split <;> rfl
@[simp] theorem State.setPb_pending (s : State) (j : Nat) (b : Byte) : (s.setPb j b).pending = s.pending := by
  unfold State.setPb; split <;> rfl
@[simp] theorem State.setPb_reply (s : State) (j : Nat) (b : Byte) : (s.setPb j b).reply = s.reply := by
  unfold State.setPb; split <;> rfl

/-! ### `putLE16` -/

@[simp] theorem State.putLE16_params (s : State) (a : Nat) (v : Half) : (s.putLE16 a v).params = s.params := by simp [State.putLE16]
@[simp] theorem State.putLE16_status (s : State) (a : Nat) (v : Half) : (s.putLE16 a v).status = s.status := by simp [State.putLE16]
@[simp] theorem State.putLE16_csumResult (s : State) (a : Nat) (v : Half) : (s.putLE16 a v).csumResult = s.csumResult := by simp [State.putLE16]
@[simp] theorem State.putLE16_msgSeq (s : State) (a : Nat) (v : Half) : (s.putLE16 a v).msgSeq = s.msgSeq := by simp [State.putLE16]
@[simp] theorem State.putLE16_fragSeq (s : State) (a : Nat) (v : Half) : (s.putLE16 a v).fragSeq = s.fragSeq := by simp [State.putLE16]
@[simp] theorem State.putLE16_plen (s : State) (a : Nat) (v : Half) : (s.putLE16 a v).plen = s.plen := by simp [State.putLE16]
@[simp] theorem State.putLE16_totSize (s : State) (a : Nat) (v : Half) : (s.putLE16 a v).totSize = s.totSize := by simp [State.putLE16]
@[simp] theorem State.putLE16_msgLen (s : State) (a : Nat) (v : Half) : (s.putLE16 a v).msgLen = s.msgLen := by simp [State.putLE16]
@[simp] theorem State.putLE16_fragIdx (s : State) (a : Nat) (v : Half) : (s.putLE16 a v).fragIdx = s.fragIdx := by simp [State.putLE16]
@[simp] theorem State.putLE16_fragCnt (s : State) (a : Nat) (v : Half) : (s.putLE16 a v).fragCnt = s.fragCnt := by simp [State.putLE16]
@[simp] theorem State.putLE16_sliceOff (s : State) (a : Nat) (v : Half) : (s.putLE16 a v).sliceOff = s.sliceOff := by simp [State.putLE16]
@[simp] theorem State.putLE16_sliceLen (s : State) (a : Nat) (v : Half) : (s.putLE16 a v).sliceLen = s.sliceLen := by simp [State.putLE16]
@[simp] theorem State.putLE16_pending (s : State) (a : Nat) (v : Half) : (s.putLE16 a v).pending = s.pending := by simp [State.putLE16]
@[simp] theorem State.putLE16_reply (s : State) (a : Nat) (v : Half) : (s.putLE16 a v).reply = s.reply := by simp [State.putLE16]

/-! ### `putLE32` -/

@[simp] theorem State.putLE32_params (s : State) (a : Nat) (v : Word) : (s.putLE32 a v).params = s.params := by simp [State.putLE32]
@[simp] theorem State.putLE32_status (s : State) (a : Nat) (v : Word) : (s.putLE32 a v).status = s.status := by simp [State.putLE32]
@[simp] theorem State.putLE32_csumResult (s : State) (a : Nat) (v : Word) : (s.putLE32 a v).csumResult = s.csumResult := by simp [State.putLE32]
@[simp] theorem State.putLE32_msgSeq (s : State) (a : Nat) (v : Word) : (s.putLE32 a v).msgSeq = s.msgSeq := by simp [State.putLE32]
@[simp] theorem State.putLE32_fragSeq (s : State) (a : Nat) (v : Word) : (s.putLE32 a v).fragSeq = s.fragSeq := by simp [State.putLE32]
@[simp] theorem State.putLE32_plen (s : State) (a : Nat) (v : Word) : (s.putLE32 a v).plen = s.plen := by simp [State.putLE32]
@[simp] theorem State.putLE32_totSize (s : State) (a : Nat) (v : Word) : (s.putLE32 a v).totSize = s.totSize := by simp [State.putLE32]
@[simp] theorem State.putLE32_msgLen (s : State) (a : Nat) (v : Word) : (s.putLE32 a v).msgLen = s.msgLen := by simp [State.putLE32]
@[simp] theorem State.putLE32_fragIdx (s : State) (a : Nat) (v : Word) : (s.putLE32 a v).fragIdx = s.fragIdx := by simp [State.putLE32]
@[simp] theorem State.putLE32_fragCnt (s : State) (a : Nat) (v : Word) : (s.putLE32 a v).fragCnt = s.fragCnt := by simp [State.putLE32]
@[simp] theorem State.putLE32_sliceOff (s : State) (a : Nat) (v : Word) : (s.putLE32 a v).sliceOff = s.sliceOff := by simp [State.putLE32]
@[simp] theorem State.putLE32_sliceLen (s : State) (a : Nat) (v : Word) : (s.putLE32 a v).sliceLen = s.sliceLen := by simp [State.putLE32]
@[simp] theorem State.putLE32_pending (s : State) (a : Nat) (v : Word) : (s.putLE32 a v).pending = s.pending := by simp [State.putLE32]
@[simp] theorem State.putLE32_reply (s : State) (a : Nat) (v : Word) : (s.putLE32 a v).reply = s.reply := by simp [State.putLE32]

/-! ### `putHeader` -/

@[simp] theorem State.putHeader_params (s : State) (l : Byte) : (s.putHeader l).params = s.params := by simp [State.putHeader]
@[simp] theorem State.putHeader_status (s : State) (l : Byte) : (s.putHeader l).status = s.status := by simp [State.putHeader]
@[simp] theorem State.putHeader_csumResult (s : State) (l : Byte) : (s.putHeader l).csumResult = s.csumResult := by simp [State.putHeader]
@[simp] theorem State.putHeader_msgSeq (s : State) (l : Byte) : (s.putHeader l).msgSeq = s.msgSeq := by simp [State.putHeader]
@[simp] theorem State.putHeader_fragSeq (s : State) (l : Byte) : (s.putHeader l).fragSeq = s.fragSeq := by simp [State.putHeader]
@[simp] theorem State.putHeader_plen (s : State) (l : Byte) : (s.putHeader l).plen = s.plen := by simp [State.putHeader]
@[simp] theorem State.putHeader_totSize (s : State) (l : Byte) : (s.putHeader l).totSize = s.totSize := by simp [State.putHeader]
@[simp] theorem State.putHeader_msgLen (s : State) (l : Byte) : (s.putHeader l).msgLen = s.msgLen := by simp [State.putHeader]
@[simp] theorem State.putHeader_fragIdx (s : State) (l : Byte) : (s.putHeader l).fragIdx = s.fragIdx := by simp [State.putHeader]
@[simp] theorem State.putHeader_fragCnt (s : State) (l : Byte) : (s.putHeader l).fragCnt = s.fragCnt := by simp [State.putHeader]
@[simp] theorem State.putHeader_sliceOff (s : State) (l : Byte) : (s.putHeader l).sliceOff = s.sliceOff := by simp [State.putHeader]
@[simp] theorem State.putHeader_sliceLen (s : State) (l : Byte) : (s.putHeader l).sliceLen = s.sliceLen := by simp [State.putHeader]
@[simp] theorem State.putHeader_pending (s : State) (l : Byte) : (s.putHeader l).pending = s.pending := by simp [State.putHeader]
@[simp] theorem State.putHeader_reply (s : State) (l : Byte) : (s.putHeader l).reply = s.reply := by simp [State.putHeader]

/-! ### `putPayload` -/

@[simp] theorem State.putPayload_params (s : State) : s.putPayload.params = s.params := by simp [State.putPayload]
@[simp] theorem State.putPayload_status (s : State) : s.putPayload.status = s.status := by simp [State.putPayload]
@[simp] theorem State.putPayload_csumResult (s : State) : s.putPayload.csumResult = s.csumResult := by simp [State.putPayload]
@[simp] theorem State.putPayload_msgSeq (s : State) : s.putPayload.msgSeq = s.msgSeq := by simp [State.putPayload]
@[simp] theorem State.putPayload_fragSeq (s : State) : s.putPayload.fragSeq = s.fragSeq := by simp [State.putPayload]
@[simp] theorem State.putPayload_plen (s : State) : s.putPayload.plen = s.plen := by simp [State.putPayload]
@[simp] theorem State.putPayload_totSize (s : State) : s.putPayload.totSize = s.totSize := by simp [State.putPayload]
@[simp] theorem State.putPayload_msgLen (s : State) : s.putPayload.msgLen = s.msgLen := by simp [State.putPayload]
@[simp] theorem State.putPayload_fragIdx (s : State) : s.putPayload.fragIdx = s.fragIdx := by simp [State.putPayload]
@[simp] theorem State.putPayload_fragCnt (s : State) : s.putPayload.fragCnt = s.fragCnt := by simp [State.putPayload]
@[simp] theorem State.putPayload_sliceOff (s : State) : s.putPayload.sliceOff = s.sliceOff := by simp [State.putPayload]
@[simp] theorem State.putPayload_sliceLen (s : State) : s.putPayload.sliceLen = s.sliceLen := by simp [State.putPayload]
@[simp] theorem State.putPayload_pending (s : State) : s.putPayload.pending = s.pending := by simp [State.putPayload]
@[simp] theorem State.putPayload_reply (s : State) : s.putPayload.reply = s.reply := by simp [State.putPayload]

/-! ### `loadPayload` -/

@[simp] theorem State.loadPayload_params (s : State) : s.loadPayload.params = s.params := by simp [State.loadPayload]
@[simp] theorem State.loadPayload_status (s : State) : s.loadPayload.status = s.status := by simp [State.loadPayload]
@[simp] theorem State.loadPayload_csumResult (s : State) : s.loadPayload.csumResult = s.csumResult := by simp [State.loadPayload]
@[simp] theorem State.loadPayload_msgSeq (s : State) : s.loadPayload.msgSeq = s.msgSeq := by simp [State.loadPayload]
@[simp] theorem State.loadPayload_fragSeq (s : State) : s.loadPayload.fragSeq = s.fragSeq := by simp [State.loadPayload]
@[simp] theorem State.loadPayload_plen (s : State) : s.loadPayload.plen = s.plen := by simp [State.loadPayload]
@[simp] theorem State.loadPayload_totSize (s : State) : s.loadPayload.totSize = s.totSize := by simp [State.loadPayload]
@[simp] theorem State.loadPayload_msgLen (s : State) : s.loadPayload.msgLen = s.msgLen := by simp [State.loadPayload]
@[simp] theorem State.loadPayload_fragIdx (s : State) : s.loadPayload.fragIdx = s.fragIdx := by simp [State.loadPayload]
@[simp] theorem State.loadPayload_fragCnt (s : State) : s.loadPayload.fragCnt = s.fragCnt := by simp [State.loadPayload]
@[simp] theorem State.loadPayload_sliceOff (s : State) : s.loadPayload.sliceOff = s.sliceOff := by simp [State.loadPayload]
@[simp] theorem State.loadPayload_sliceLen (s : State) : s.loadPayload.sliceLen = s.sliceLen := by simp [State.loadPayload]
@[simp] theorem State.loadPayload_pending (s : State) : s.loadPayload.pending = s.pending := by simp [State.loadPayload]
@[simp] theorem State.loadPayload_reply (s : State) : s.loadPayload.reply = s.reply := by simp [State.loadPayload]

/-! ### `zeroBuffers` -/

@[simp] theorem State.zeroBuffers_params (s : State) : s.zeroBuffers.params = s.params := by simp [State.zeroBuffers]
@[simp] theorem State.zeroBuffers_status (s : State) : s.zeroBuffers.status = s.status := by simp [State.zeroBuffers]
@[simp] theorem State.zeroBuffers_csumResult (s : State) : s.zeroBuffers.csumResult = s.csumResult := by simp [State.zeroBuffers]
@[simp] theorem State.zeroBuffers_msgSeq (s : State) : s.zeroBuffers.msgSeq = s.msgSeq := by simp [State.zeroBuffers]
@[simp] theorem State.zeroBuffers_fragSeq (s : State) : s.zeroBuffers.fragSeq = s.fragSeq := by simp [State.zeroBuffers]
@[simp] theorem State.zeroBuffers_plen (s : State) : s.zeroBuffers.plen = s.plen := by simp [State.zeroBuffers]
@[simp] theorem State.zeroBuffers_totSize (s : State) : s.zeroBuffers.totSize = s.totSize := by simp [State.zeroBuffers]
@[simp] theorem State.zeroBuffers_msgLen (s : State) : s.zeroBuffers.msgLen = s.msgLen := by simp [State.zeroBuffers]
@[simp] theorem State.zeroBuffers_fragIdx (s : State) : s.zeroBuffers.fragIdx = s.fragIdx := by simp [State.zeroBuffers]
@[simp] theorem State.zeroBuffers_fragCnt (s : State) : s.zeroBuffers.fragCnt = s.fragCnt := by simp [State.zeroBuffers]
@[simp] theorem State.zeroBuffers_sliceOff (s : State) : s.zeroBuffers.sliceOff = s.sliceOff := by simp [State.zeroBuffers]
@[simp] theorem State.zeroBuffers_sliceLen (s : State) : s.zeroBuffers.sliceLen = s.sliceLen := by simp [State.zeroBuffers]
@[simp] theorem State.zeroBuffers_pending (s : State) : s.zeroBuffers.pending = s.pending := by simp [State.zeroBuffers]
@[simp] theorem State.zeroBuffers_reply (s : State) : s.zeroBuffers.reply = s.reply := by simp [State.zeroBuffers]

/-! ### `putTotal` -/

@[simp] theorem State.putTotal_params (s : State) : s.putTotal.params = s.params := by
  unfold State.putTotal; split <;> simp
@[simp] theorem State.putTotal_status (s : State) : s.putTotal.status = s.status := by
  unfold State.putTotal; split <;> simp
@[simp] theorem State.putTotal_csumResult (s : State) : s.putTotal.csumResult = s.csumResult := by
  unfold State.putTotal; split <;> simp
@[simp] theorem State.putTotal_msgSeq (s : State) : s.putTotal.msgSeq = s.msgSeq := by
  unfold State.putTotal; split <;> simp
@[simp] theorem State.putTotal_fragSeq (s : State) : s.putTotal.fragSeq = s.fragSeq := by
  unfold State.putTotal; split <;> simp
@[simp] theorem State.putTotal_plen (s : State) : s.putTotal.plen = s.plen := by
  unfold State.putTotal; split <;> simp
@[simp] theorem State.putTotal_totSize (s : State) : s.putTotal.totSize = s.totSize := by
  unfold State.putTotal; split <;> simp
@[simp] theorem State.putTotal_msgLen (s : State) : s.putTotal.msgLen = s.msgLen := by
  unfold State.putTotal; split <;> simp
@[simp] theorem State.putTotal_fragIdx (s : State) : s.putTotal.fragIdx = s.fragIdx := by
  unfold State.putTotal; split <;> simp
@[simp] theorem State.putTotal_fragCnt (s : State) : s.putTotal.fragCnt = s.fragCnt := by
  unfold State.putTotal; split <;> simp
@[simp] theorem State.putTotal_sliceOff (s : State) : s.putTotal.sliceOff = s.sliceOff := by
  unfold State.putTotal; split <;> simp
@[simp] theorem State.putTotal_sliceLen (s : State) : s.putTotal.sliceLen = s.sliceLen := by
  unfold State.putTotal; split <;> simp
@[simp] theorem State.putTotal_pending (s : State) : s.putTotal.pending = s.pending := by
  unfold State.putTotal; split <;> simp
@[simp] theorem State.putTotal_reply (s : State) : s.putTotal.reply = s.reply := by
  unfold State.putTotal; split <;> simp

/-! ### `loadTotal` -/

@[simp] theorem State.loadTotal_params (s : State) : s.loadTotal.params = s.params := by
  unfold State.loadTotal; split <;> rfl
@[simp] theorem State.loadTotal_mem (s : State) : s.loadTotal.mem = s.mem := by
  unfold State.loadTotal; split <;> rfl
@[simp] theorem State.loadTotal_csumResult (s : State) : s.loadTotal.csumResult = s.csumResult := by
  unfold State.loadTotal; split <;> rfl
@[simp] theorem State.loadTotal_msgSeq (s : State) : s.loadTotal.msgSeq = s.msgSeq := by
  unfold State.loadTotal; split <;> rfl
@[simp] theorem State.loadTotal_fragSeq (s : State) : s.loadTotal.fragSeq = s.fragSeq := by
  unfold State.loadTotal; split <;> rfl
@[simp] theorem State.loadTotal_plen (s : State) : s.loadTotal.plen = s.plen := by
  unfold State.loadTotal; split <;> rfl
@[simp] theorem State.loadTotal_msgLen (s : State) : s.loadTotal.msgLen = s.msgLen := by
  unfold State.loadTotal; split <;> rfl
@[simp] theorem State.loadTotal_fragIdx (s : State) : s.loadTotal.fragIdx = s.fragIdx := by
  unfold State.loadTotal; split <;> rfl
@[simp] theorem State.loadTotal_fragCnt (s : State) : s.loadTotal.fragCnt = s.fragCnt := by
  unfold State.loadTotal; split <;> rfl
@[simp] theorem State.loadTotal_sliceOff (s : State) : s.loadTotal.sliceOff = s.sliceOff := by
  unfold State.loadTotal; split <;> rfl
@[simp] theorem State.loadTotal_sliceLen (s : State) : s.loadTotal.sliceLen = s.sliceLen := by
  unfold State.loadTotal; split <;> rfl
@[simp] theorem State.loadTotal_pending (s : State) : s.loadTotal.pending = s.pending := by
  unfold State.loadTotal; split <;> rfl
@[simp] theorem State.loadTotal_reply (s : State) : s.loadTotal.reply = s.reply := by
  unfold State.loadTotal; split <;> rfl

/-! ### `dataBody`, `parsedData`, `parsedAck`, `zeroRegisters` -/

@[simp] theorem State.dataBody_params (s : State) : s.dataBody.params = s.params := by simp [State.dataBody]
@[simp] theorem State.dataBody_status (s : State) : s.dataBody.status = s.status := by simp [State.dataBody]
@[simp] theorem State.dataBody_csumResult (s : State) : s.dataBody.csumResult = s.csumResult := by simp [State.dataBody]
@[simp] theorem State.dataBody_msgSeq (s : State) : s.dataBody.msgSeq = s.msgSeq := by simp [State.dataBody]
@[simp] theorem State.dataBody_fragSeq (s : State) : s.dataBody.fragSeq = s.fragSeq := by simp [State.dataBody]
@[simp] theorem State.dataBody_plen (s : State) : s.dataBody.plen = s.plen := by simp [State.dataBody]
@[simp] theorem State.dataBody_totSize (s : State) : s.dataBody.totSize = s.totSize := by simp [State.dataBody]
@[simp] theorem State.dataBody_msgLen (s : State) : s.dataBody.msgLen = s.msgLen := by simp [State.dataBody]
@[simp] theorem State.dataBody_fragIdx (s : State) : s.dataBody.fragIdx = s.fragIdx := by simp [State.dataBody]
@[simp] theorem State.dataBody_fragCnt (s : State) : s.dataBody.fragCnt = s.fragCnt := by simp [State.dataBody]
@[simp] theorem State.dataBody_sliceOff (s : State) : s.dataBody.sliceOff = s.sliceOff := by simp [State.dataBody]
@[simp] theorem State.dataBody_sliceLen (s : State) : s.dataBody.sliceLen = s.sliceLen := by simp [State.dataBody]
@[simp] theorem State.dataBody_pending (s : State) : s.dataBody.pending = s.pending := by simp [State.dataBody]
@[simp] theorem State.dataBody_reply (s : State) : s.dataBody.reply = s.reply := by simp [State.dataBody]
@[simp] theorem State.parsedData_params (s : State) : s.parsedData.params = s.params := by
  simp [State.parsedData]
@[simp] theorem State.parsedData_mem (s : State) : s.parsedData.mem = s.mem := by
  simp [State.parsedData]
@[simp] theorem State.parsedData_csumResult (s : State) : s.parsedData.csumResult = s.csum := by
  simp [State.parsedData]
@[simp] theorem State.parsedData_msgSeq (s : State) : s.parsedData.msgSeq = s.frameMsgSeq := by
  simp [State.parsedData]; rfl
@[simp] theorem State.parsedData_fragSeq (s : State) : s.parsedData.fragSeq = s.frameFragSeq := by
  simp [State.parsedData]; rfl
@[simp] theorem State.parsedData_plen (s : State) : s.parsedData.plen = s.framePlen := by
  simp [State.parsedData]; rfl
@[simp] theorem State.parsedData_msgLen (s : State) : s.parsedData.msgLen = s.msgLen := by
  simp [State.parsedData]
@[simp] theorem State.parsedData_fragIdx (s : State) : s.parsedData.fragIdx = s.fragIdx := by
  simp [State.parsedData]
@[simp] theorem State.parsedData_fragCnt (s : State) : s.parsedData.fragCnt = s.fragCnt := by
  simp [State.parsedData]
@[simp] theorem State.parsedData_sliceOff (s : State) : s.parsedData.sliceOff = s.sliceOff := by
  simp [State.parsedData]
@[simp] theorem State.parsedData_sliceLen (s : State) : s.parsedData.sliceLen = s.sliceLen := by
  simp [State.parsedData]
@[simp] theorem State.parsedData_pending (s : State) : s.parsedData.pending = s.pending := by
  simp [State.parsedData]
@[simp] theorem State.parsedData_reply (s : State) : s.parsedData.reply = s.reply := by
  simp [State.parsedData]
@[simp] theorem State.parsedAck_params (s : State) : s.parsedAck.params = s.params := rfl
@[simp] theorem State.parsedAck_mem (s : State) : s.parsedAck.mem = s.mem := rfl
@[simp] theorem State.parsedAck_csumResult (s : State) : s.parsedAck.csumResult = s.csum := rfl
@[simp] theorem State.parsedAck_msgSeq (s : State) : s.parsedAck.msgSeq = s.frameMsgSeq := rfl
@[simp] theorem State.parsedAck_fragSeq (s : State) : s.parsedAck.fragSeq = s.frameFragSeq := rfl
@[simp] theorem State.parsedAck_plen (s : State) : s.parsedAck.plen = s.framePlen := rfl
@[simp] theorem State.parsedAck_totSize (s : State) : s.parsedAck.totSize = s.totSize := rfl
@[simp] theorem State.parsedAck_msgLen (s : State) : s.parsedAck.msgLen = s.msgLen := rfl
@[simp] theorem State.parsedAck_fragIdx (s : State) : s.parsedAck.fragIdx = s.fragIdx := rfl
@[simp] theorem State.parsedAck_fragCnt (s : State) : s.parsedAck.fragCnt = s.fragCnt := rfl
@[simp] theorem State.parsedAck_sliceOff (s : State) : s.parsedAck.sliceOff = s.sliceOff := rfl
@[simp] theorem State.parsedAck_sliceLen (s : State) : s.parsedAck.sliceLen = s.sliceLen := rfl
@[simp] theorem State.parsedAck_pending (s : State) : s.parsedAck.pending = s.pending := rfl
@[simp] theorem State.parsedAck_reply (s : State) : s.parsedAck.reply = s.reply := rfl
@[simp] theorem State.zeroRegisters_params (s : State) : s.zeroRegisters.params = s.params := rfl
@[simp] theorem State.zeroRegisters_mem (s : State) : s.zeroRegisters.mem = s.mem := rfl
@[simp] theorem State.zeroRegisters_status (s : State) : s.zeroRegisters.status = s.status := rfl
@[simp] theorem State.zeroRegisters_csumResult (s : State) : s.zeroRegisters.csumResult = 0#16 := rfl
@[simp] theorem State.zeroRegisters_msgSeq (s : State) : s.zeroRegisters.msgSeq = 0#32 := rfl
@[simp] theorem State.zeroRegisters_fragSeq (s : State) : s.zeroRegisters.fragSeq = 0#32 := rfl
@[simp] theorem State.zeroRegisters_plen (s : State) : s.zeroRegisters.plen = 0#8 := rfl
@[simp] theorem State.zeroRegisters_totSize (s : State) : s.zeroRegisters.totSize = 0#32 := rfl
@[simp] theorem State.zeroRegisters_msgLen (s : State) : s.zeroRegisters.msgLen = 0#32 := rfl
@[simp] theorem State.zeroRegisters_fragIdx (s : State) : s.zeroRegisters.fragIdx = 0#32 := rfl
@[simp] theorem State.zeroRegisters_fragCnt (s : State) : s.zeroRegisters.fragCnt = 0#32 := rfl
@[simp] theorem State.zeroRegisters_sliceOff (s : State) : s.zeroRegisters.sliceOff = 0#32 := rfl
@[simp] theorem State.zeroRegisters_sliceLen (s : State) : s.zeroRegisters.sliceLen = 0#8 := rfl
@[simp] theorem State.zeroRegisters_pending (s : State) : s.zeroRegisters.pending = s.pending := rfl
@[simp] theorem State.zeroRegisters_reply (s : State) : s.zeroRegisters.reply = s.reply := rfl

/-! ### `sealFrame` -/

@[simp] theorem State.sealFrame_params (s : State) : s.sealFrame.params = s.params := by simp [State.sealFrame]
@[simp] theorem State.sealFrame_status (s : State) : s.sealFrame.status = s.status := by simp [State.sealFrame]
@[simp] theorem State.sealFrame_csumResult (s : State) : s.sealFrame.csumResult = s.csum := by simp [State.sealFrame]
@[simp] theorem State.sealFrame_msgSeq (s : State) : s.sealFrame.msgSeq = s.msgSeq := by simp [State.sealFrame]
@[simp] theorem State.sealFrame_fragSeq (s : State) : s.sealFrame.fragSeq = s.fragSeq := by simp [State.sealFrame]
@[simp] theorem State.sealFrame_plen (s : State) : s.sealFrame.plen = s.plen := by simp [State.sealFrame]
@[simp] theorem State.sealFrame_totSize (s : State) : s.sealFrame.totSize = s.totSize := by simp [State.sealFrame]
@[simp] theorem State.sealFrame_msgLen (s : State) : s.sealFrame.msgLen = s.msgLen := by simp [State.sealFrame]
@[simp] theorem State.sealFrame_fragIdx (s : State) : s.sealFrame.fragIdx = s.fragIdx := by simp [State.sealFrame]
@[simp] theorem State.sealFrame_fragCnt (s : State) : s.sealFrame.fragCnt = s.fragCnt := by simp [State.sealFrame]
@[simp] theorem State.sealFrame_sliceOff (s : State) : s.sealFrame.sliceOff = s.sliceOff := by simp [State.sealFrame]
@[simp] theorem State.sealFrame_sliceLen (s : State) : s.sealFrame.sliceLen = s.sliceLen := by simp [State.sealFrame]
@[simp] theorem State.sealFrame_pending (s : State) : s.sealFrame.pending = s.pending := by simp [State.sealFrame]
@[simp] theorem State.sealFrame_reply (s : State) : s.sealFrame.reply = s.reply := by simp [State.sealFrame]
@[simp] theorem State.sealFrame_mem (s : State) : s.sealFrame.mem = (s.putLE16 0 s.csum).mem := rfl

/-! ### The ends of a command are updates of `STATUS.ERR` -/

theorem State.raiseError_eq (s : State) (c : ErrCode) : s.raiseError c = s.setErr c := rfl

theorem State.complete_eq (s : State) : s.complete = s.setErr .none := rfl

theorem State.rejectWord_eq (s : State) : s.rejectWord = s.setErr .illegalCmd := rfl

/-- The views of a state's buffers depend on its parameters and its memory alone. -/
theorem State.fb_congr {s t : State} (hp : t.params = s.params) (hm : t.mem = s.mem) (i : Nat) : t.fb i = s.fb i := by
  simp [State.fb, hp, hm]

theorem State.pb_congr {s t : State} (hp : t.params = s.params) (hm : t.mem = s.mem) (j : Nat) : t.pb j = s.pb j := by
  unfold State.pb State.capacity; rw [hp, hm]

theorem State.capacity_congr {s t : State} (hp : t.params = s.params) : t.capacity = s.capacity := by
  simp [State.capacity, hp]

/-- The sum of the first `n` covered words depends on the parameters and the bytes `FB[2..]` alone. -/
theorem State.sumWords_congr {s t : State} (hp : t.params = s.params) (hf : ∀ i, 2 ≤ i → t.fb i = s.fb i) (n : Nat) :
    t.sumWords n = s.sumWords n := by
  induction n with
  | zero => rfl
  | succ n ih =>
    simp only [State.sumWords, State.coveredWord, ih, hp, hf (2 + 2 * n) (by omega), hf (3 + 2 * n) (by omega)]

/-- The checksum does not depend on `FB[0..1]` (40_checksum.md R109). -/
theorem State.csum_congr {s t : State} (hp : t.params = s.params) (hf : ∀ i, 2 ≤ i → t.fb i = s.fb i) :
    t.csum = s.csum := by
  simp only [State.csum, State.wordCount, hp, State.sumWords_congr hp hf]

theorem State.frameValid_congr {s t : State} (hp : t.params = s.params) (hf : ∀ i, t.fb i = s.fb i) :
    t.frameValid = s.frameValid := by
  simp only [State.frameValid, State.csum_congr hp (fun i _ => hf i), State.stored, State.le16, hf]

/-! ### Views that read only the parameters and the memory -/

@[simp] theorem State.setErr_capacity (s : State) (c : ErrCode) : (s.setErr c).capacity = s.capacity := rfl
@[simp] theorem State.setErr_fb (s : State) (c : ErrCode) (i : Nat) : (s.setErr c).fb i = s.fb i := rfl
@[simp] theorem State.setErr_pb (s : State) (c : ErrCode) (j : Nat) : (s.setErr c).pb j = s.pb j := rfl
@[simp] theorem State.setErr_le16 (s : State) (c : ErrCode) (a : Nat) : (s.setErr c).le16 a = s.le16 a := rfl
@[simp] theorem State.setErr_le32 (s : State) (c : ErrCode) (a : Nat) : (s.setErr c).le32 a = s.le32 a := rfl
@[simp] theorem State.setErr_capOf (s : State) (c : ErrCode) (q : Word) : (s.setErr c).capOf q = s.capOf q := rfl
@[simp] theorem State.setErr_csum (s : State) (c : ErrCode) : (s.setErr c).csum = s.csum := State.csum_congr rfl (fun _ _ => rfl)
@[simp] theorem State.setErr_frameValid (s : State) (c : ErrCode) : (s.setErr c).frameValid = s.frameValid := State.frameValid_congr rfl (fun _ => rfl)
@[simp] theorem State.setErr_countOf (s : State) (c : ErrCode) (m : Nat) : (s.setErr c).countOf m = s.countOf m := rfl

@[simp] theorem State.setCkOk_capacity (s : State) (b : Bool) : (s.setCkOk b).capacity = s.capacity := rfl
@[simp] theorem State.setCkOk_fb (s : State) (b : Bool) (i : Nat) : (s.setCkOk b).fb i = s.fb i := rfl
@[simp] theorem State.setCkOk_pb (s : State) (b : Bool) (j : Nat) : (s.setCkOk b).pb j = s.pb j := rfl
@[simp] theorem State.setCkOk_le16 (s : State) (b : Bool) (a : Nat) : (s.setCkOk b).le16 a = s.le16 a := rfl
@[simp] theorem State.setCkOk_le32 (s : State) (b : Bool) (a : Nat) : (s.setCkOk b).le32 a = s.le32 a := rfl
@[simp] theorem State.setCkOk_capOf (s : State) (b : Bool) (q : Word) : (s.setCkOk b).capOf q = s.capOf q := rfl
@[simp] theorem State.setCkOk_csum (s : State) (b : Bool) : (s.setCkOk b).csum = s.csum := State.csum_congr rfl (fun _ _ => rfl)
@[simp] theorem State.setCkOk_frameValid (s : State) (b : Bool) : (s.setCkOk b).frameValid = s.frameValid := State.frameValid_congr rfl (fun _ => rfl)
@[simp] theorem State.setCkOk_countOf (s : State) (b : Bool) (m : Nat) : (s.setCkOk b).countOf m = s.countOf m := rfl

@[simp] theorem State.setHasTotal_capacity (s : State) (b : Bool) : (s.setHasTotal b).capacity = s.capacity := rfl
@[simp] theorem State.setHasTotal_fb (s : State) (b : Bool) (i : Nat) : (s.setHasTotal b).fb i = s.fb i := rfl
@[simp] theorem State.setHasTotal_pb (s : State) (b : Bool) (j : Nat) : (s.setHasTotal b).pb j = s.pb j := rfl
@[simp] theorem State.setHasTotal_le16 (s : State) (b : Bool) (a : Nat) : (s.setHasTotal b).le16 a = s.le16 a := rfl
@[simp] theorem State.setHasTotal_le32 (s : State) (b : Bool) (a : Nat) : (s.setHasTotal b).le32 a = s.le32 a := rfl
@[simp] theorem State.setHasTotal_capOf (s : State) (b : Bool) (q : Word) : (s.setHasTotal b).capOf q = s.capOf q := rfl
@[simp] theorem State.setHasTotal_csum (s : State) (b : Bool) : (s.setHasTotal b).csum = s.csum := State.csum_congr rfl (fun _ _ => rfl)
@[simp] theorem State.setHasTotal_frameValid (s : State) (b : Bool) : (s.setHasTotal b).frameValid = s.frameValid := State.frameValid_congr rfl (fun _ => rfl)
@[simp] theorem State.setHasTotal_countOf (s : State) (b : Bool) (m : Nat) : (s.setHasTotal b).countOf m = s.countOf m := rfl

@[simp] theorem State.recordCsum_capacity (s : State) : s.recordCsum.capacity = s.capacity := rfl
@[simp] theorem State.recordCsum_fb (s : State) (i : Nat) : s.recordCsum.fb i = s.fb i := rfl
@[simp] theorem State.recordCsum_pb (s : State) (j : Nat) : s.recordCsum.pb j = s.pb j := rfl
@[simp] theorem State.recordCsum_le16 (s : State) (a : Nat) : s.recordCsum.le16 a = s.le16 a := rfl
@[simp] theorem State.recordCsum_le32 (s : State) (a : Nat) : s.recordCsum.le32 a = s.le32 a := rfl
@[simp] theorem State.recordCsum_capOf (s : State) (q : Word) : s.recordCsum.capOf q = s.capOf q := rfl
@[simp] theorem State.recordCsum_csum (s : State) : s.recordCsum.csum = s.csum := State.csum_congr rfl (fun _ _ => rfl)
@[simp] theorem State.recordCsum_frameValid (s : State) : s.recordCsum.frameValid = s.frameValid := State.frameValid_congr rfl (fun _ => rfl)
@[simp] theorem State.recordCsum_countOf (s : State) (m : Nat) : s.recordCsum.countOf m = s.countOf m := rfl

@[simp] theorem State.loadHeader_capacity (s : State) : s.loadHeader.capacity = s.capacity := rfl
@[simp] theorem State.loadHeader_fb (s : State) (i : Nat) : s.loadHeader.fb i = s.fb i := rfl
@[simp] theorem State.loadHeader_pb (s : State) (j : Nat) : s.loadHeader.pb j = s.pb j := rfl
@[simp] theorem State.loadHeader_le16 (s : State) (a : Nat) : s.loadHeader.le16 a = s.le16 a := rfl
@[simp] theorem State.loadHeader_le32 (s : State) (a : Nat) : s.loadHeader.le32 a = s.le32 a := rfl
@[simp] theorem State.loadHeader_capOf (s : State) (q : Word) : s.loadHeader.capOf q = s.capOf q := rfl
@[simp] theorem State.loadHeader_csum (s : State) : s.loadHeader.csum = s.csum := State.csum_congr rfl (fun _ _ => rfl)
@[simp] theorem State.loadHeader_frameValid (s : State) : s.loadHeader.frameValid = s.frameValid := State.frameValid_congr rfl (fun _ => rfl)
@[simp] theorem State.loadHeader_countOf (s : State) (m : Nat) : s.loadHeader.countOf m = s.countOf m := rfl

@[simp] theorem State.recordCount_capacity (s : State) : s.recordCount.capacity = s.capacity := rfl
@[simp] theorem State.recordCount_fb (s : State) (i : Nat) : s.recordCount.fb i = s.fb i := rfl
@[simp] theorem State.recordCount_pb (s : State) (j : Nat) : s.recordCount.pb j = s.pb j := rfl
@[simp] theorem State.recordCount_le16 (s : State) (a : Nat) : s.recordCount.le16 a = s.le16 a := rfl
@[simp] theorem State.recordCount_le32 (s : State) (a : Nat) : s.recordCount.le32 a = s.le32 a := rfl
@[simp] theorem State.recordCount_capOf (s : State) (q : Word) : s.recordCount.capOf q = s.capOf q := rfl
@[simp] theorem State.recordCount_csum (s : State) : s.recordCount.csum = s.csum := State.csum_congr rfl (fun _ _ => rfl)
@[simp] theorem State.recordCount_frameValid (s : State) : s.recordCount.frameValid = s.frameValid := State.frameValid_congr rfl (fun _ => rfl)
@[simp] theorem State.recordCount_countOf (s : State) (m : Nat) : s.recordCount.countOf m = s.countOf m := rfl

@[simp] theorem State.answer_capacity (s : State) (r : Reply) : (s.answer r).capacity = s.capacity := rfl
@[simp] theorem State.answer_fb (s : State) (r : Reply) (i : Nat) : (s.answer r).fb i = s.fb i := rfl
@[simp] theorem State.answer_pb (s : State) (r : Reply) (j : Nat) : (s.answer r).pb j = s.pb j := rfl
@[simp] theorem State.answer_le16 (s : State) (r : Reply) (a : Nat) : (s.answer r).le16 a = s.le16 a := rfl
@[simp] theorem State.answer_le32 (s : State) (r : Reply) (a : Nat) : (s.answer r).le32 a = s.le32 a := rfl
@[simp] theorem State.answer_capOf (s : State) (r : Reply) (q : Word) : (s.answer r).capOf q = s.capOf q := rfl
@[simp] theorem State.answer_csum (s : State) (r : Reply) : (s.answer r).csum = s.csum := State.csum_congr rfl (fun _ _ => rfl)
@[simp] theorem State.answer_frameValid (s : State) (r : Reply) : (s.answer r).frameValid = s.frameValid := State.frameValid_congr rfl (fun _ => rfl)
@[simp] theorem State.answer_countOf (s : State) (r : Reply) (m : Nat) : (s.answer r).countOf m = s.countOf m := rfl

/-! ### The buffers after what the parsers and FRAG_SLICE record in registers -/

@[simp] theorem State.recordSlice_fb (s : State) (i : Nat) : s.recordSlice.fb i = s.fb i :=
  State.fb_congr (by simp) (by simp) i
@[simp] theorem State.recordSlice_pb (s : State) (j : Nat) : s.recordSlice.pb j = s.pb j :=
  State.pb_congr (by simp) (by simp) j
@[simp] theorem State.loadTotal_fb (s : State) (i : Nat) : s.loadTotal.fb i = s.fb i :=
  State.fb_congr (by simp) (by simp) i
@[simp] theorem State.loadTotal_pb (s : State) (j : Nat) : s.loadTotal.pb j = s.pb j :=
  State.pb_congr (by simp) (by simp) j
@[simp] theorem State.parsedData_fb (s : State) (i : Nat) : s.parsedData.fb i = s.fb i :=
  State.fb_congr (by simp) (by simp) i
@[simp] theorem State.parsedData_pb (s : State) (j : Nat) : s.parsedData.pb j = s.pb j :=
  State.pb_congr (by simp) (by simp) j
@[simp] theorem State.parsedAck_fb (s : State) (i : Nat) : s.parsedAck.fb i = s.fb i :=
  State.fb_congr (by simp) (by simp) i
@[simp] theorem State.parsedAck_pb (s : State) (j : Nat) : s.parsedAck.pb j = s.pb j :=
  State.pb_congr (by simp) (by simp) j

end Sys2Proof.Machine
end

