-- ==== Sys2Proof/Laws/Status.lean ====
section
/-! SUPPORT. Reading a field of `STATUS` after writing one (10_state.md R27): a write changes its own field and no
other. -/

namespace Sys2Proof.Machine

open Sys2Proof


/-- A write of bit 0 of 8 bits, read back. -/
theorem bits_setCkOk : ∀ (x : BitVec 8) (b : Bool), (x.extractLsb' 1 7 ++ BitVec.ofBool b).getLsbD 0 = b ∧
    (x.extractLsb' 1 7 ++ BitVec.ofBool b).getLsbD 1 = x.getLsbD 1 ∧
    (x.extractLsb' 1 7 ++ BitVec.ofBool b).extractLsb' 2 2 = x.extractLsb' 2 2 ∧
    (x.extractLsb' 1 7 ++ BitVec.ofBool b).extractLsb' 4 4 = x.extractLsb' 4 4 := by decide +kernel

/-- A write of bit 1 of 8 bits, read back. -/
theorem bits_setHasTotal : ∀ (x : BitVec 8) (b : Bool),
    (x.extractLsb' 2 6 ++ BitVec.ofBool b ++ x.extractLsb' 0 1).getLsbD 0 = x.getLsbD 0 ∧
    (x.extractLsb' 2 6 ++ BitVec.ofBool b ++ x.extractLsb' 0 1).getLsbD 1 = b ∧
    (x.extractLsb' 2 6 ++ BitVec.ofBool b ++ x.extractLsb' 0 1).extractLsb' 2 2 = x.extractLsb' 2 2 ∧
    (x.extractLsb' 2 6 ++ BitVec.ofBool b ++ x.extractLsb' 0 1).extractLsb' 4 4 = x.extractLsb' 4 4 := by
  decide +kernel

/-- A write of bits 7:4 of 8 bits, read back, and 8 bits as their four fields. -/
theorem bits_setErr : ∀ (x : BitVec 8) (c : BitVec 4), ((c ++ x.extractLsb' 0 4).getLsbD 0 = x.getLsbD 0 ∧
    (c ++ x.extractLsb' 0 4).getLsbD 1 = x.getLsbD 1 ∧
    (c ++ x.extractLsb' 0 4).extractLsb' 2 2 = x.extractLsb' 2 2 ∧ (c ++ x.extractLsb' 0 4).extractLsb' 4 4 = c) ∧
    x.toNat = (x.getLsbD 0).toNat + 2 * (x.getLsbD 1).toNat + 4 * (x.extractLsb' 2 2).toNat +
      16 * (x.extractLsb' 4 4).toNat := by decide +kernel

@[simp] theorem State.ckOk_setCkOk (s : State) (b : Bool) : (s.setCkOk b).ckOk = b :=
  (bits_setCkOk s.status b).1

@[simp] theorem State.hasTotal_setCkOk (s : State) (b : Bool) : (s.setCkOk b).hasTotal = s.hasTotal :=
  (bits_setCkOk s.status b).2.1

@[simp] theorem State.statusReserved_setCkOk (s : State) (b : Bool) : (s.setCkOk b).statusReserved = s.statusReserved :=
  (bits_setCkOk s.status b).2.2.1

@[simp] theorem State.err_setCkOk (s : State) (b : Bool) : (s.setCkOk b).err = s.err :=
  (bits_setCkOk s.status b).2.2.2

@[simp] theorem State.ckOk_setHasTotal (s : State) (b : Bool) : (s.setHasTotal b).ckOk = s.ckOk :=
  (bits_setHasTotal s.status b).1

@[simp] theorem State.hasTotal_setHasTotal (s : State) (b : Bool) : (s.setHasTotal b).hasTotal = b :=
  (bits_setHasTotal s.status b).2.1

@[simp] theorem State.statusReserved_setHasTotal (s : State) (b : Bool) : (s.setHasTotal b).statusReserved = s.statusReserved :=
  (bits_setHasTotal s.status b).2.2.1

@[simp] theorem State.err_setHasTotal (s : State) (b : Bool) : (s.setHasTotal b).err = s.err :=
  (bits_setHasTotal s.status b).2.2.2

@[simp] theorem State.ckOk_setErr (s : State) (c : ErrCode) : (s.setErr c).ckOk = s.ckOk :=
  (bits_setErr s.status c.code).1.1

@[simp] theorem State.hasTotal_setErr (s : State) (c : ErrCode) : (s.setErr c).hasTotal = s.hasTotal :=
  (bits_setErr s.status c.code).1.2.1

@[simp] theorem State.statusReserved_setErr (s : State) (c : ErrCode) : (s.setErr c).statusReserved = s.statusReserved :=
  (bits_setErr s.status c.code).1.2.2.1

@[simp] theorem State.err_setErr (s : State) (c : ErrCode) : (s.setErr c).err = c.code :=
  (bits_setErr s.status c.code).1.2.2.2

/-- `STATUS` is its four fields (10_state.md R27). -/
theorem State.status_toNat (s : State) :
    s.status.toNat = s.ckOk.toNat + 2 * s.hasTotal.toNat + 4 * s.statusReserved.toNat + 16 * s.err.toNat :=
  (bits_setErr s.status 0#4).2

/-- Two values of `STATUS` with equal fields are equal (10_state.md R27). -/
theorem State.status_ext {s t : State} (h0 : t.ckOk = s.ckOk) (h1 : t.hasTotal = s.hasTotal)
    (h2 : t.statusReserved = s.statusReserved) (h3 : t.err = s.err) : t.status = s.status := by
  apply BitVec.eq_of_toNat_eq
  rw [s.status_toNat, t.status_toNat, h0, h1, h2, h3]

/-! ### Updates that do not touch `STATUS` -/

@[simp] theorem State.ckOk_recordCsum (s : State) : s.recordCsum.ckOk = s.ckOk := by simp only [State.ckOk, State.recordCsum_status]
@[simp] theorem State.hasTotal_recordCsum (s : State) : s.recordCsum.hasTotal = s.hasTotal := by simp only [State.hasTotal, State.recordCsum_status]
@[simp] theorem State.statusReserved_recordCsum (s : State) : s.recordCsum.statusReserved = s.statusReserved := by simp only [State.statusReserved, State.recordCsum_status]
@[simp] theorem State.err_recordCsum (s : State) : s.recordCsum.err = s.err := by simp only [State.err, State.recordCsum_status]

@[simp] theorem State.ckOk_loadHeader (s : State) : s.loadHeader.ckOk = s.ckOk := by simp only [State.ckOk, State.loadHeader_status]
@[simp] theorem State.hasTotal_loadHeader (s : State) : s.loadHeader.hasTotal = s.hasTotal := by simp only [State.hasTotal, State.loadHeader_status]
@[simp] theorem State.statusReserved_loadHeader (s : State) : s.loadHeader.statusReserved = s.statusReserved := by simp only [State.statusReserved, State.loadHeader_status]
@[simp] theorem State.err_loadHeader (s : State) : s.loadHeader.err = s.err := by simp only [State.err, State.loadHeader_status]

@[simp] theorem State.ckOk_recordCount (s : State) : s.recordCount.ckOk = s.ckOk := by simp only [State.ckOk, State.recordCount_status]
@[simp] theorem State.hasTotal_recordCount (s : State) : s.recordCount.hasTotal = s.hasTotal := by simp only [State.hasTotal, State.recordCount_status]
@[simp] theorem State.statusReserved_recordCount (s : State) : s.recordCount.statusReserved = s.statusReserved := by simp only [State.statusReserved, State.recordCount_status]
@[simp] theorem State.err_recordCount (s : State) : s.recordCount.err = s.err := by simp only [State.err, State.recordCount_status]

@[simp] theorem State.ckOk_recordSlice (s : State) : s.recordSlice.ckOk = s.ckOk := by simp only [State.ckOk, State.recordSlice_status]
@[simp] theorem State.hasTotal_recordSlice (s : State) : s.recordSlice.hasTotal = s.hasTotal := by simp only [State.hasTotal, State.recordSlice_status]
@[simp] theorem State.statusReserved_recordSlice (s : State) : s.recordSlice.statusReserved = s.statusReserved := by simp only [State.statusReserved, State.recordSlice_status]
@[simp] theorem State.err_recordSlice (s : State) : s.recordSlice.err = s.err := by simp only [State.err, State.recordSlice_status]

@[simp] theorem State.ckOk_sealFrame (s : State) : s.sealFrame.ckOk = s.ckOk := by simp only [State.ckOk, State.sealFrame_status]
@[simp] theorem State.hasTotal_sealFrame (s : State) : s.sealFrame.hasTotal = s.hasTotal := by simp only [State.hasTotal, State.sealFrame_status]
@[simp] theorem State.statusReserved_sealFrame (s : State) : s.sealFrame.statusReserved = s.statusReserved := by simp only [State.statusReserved, State.sealFrame_status]
@[simp] theorem State.err_sealFrame (s : State) : s.sealFrame.err = s.err := by simp only [State.err, State.sealFrame_status]

@[simp] theorem State.ckOk_putHeader (s : State) (l : Byte) : (s.putHeader l).ckOk = s.ckOk := by simp only [State.ckOk, State.putHeader_status]
@[simp] theorem State.hasTotal_putHeader (s : State) (l : Byte) : (s.putHeader l).hasTotal = s.hasTotal := by simp only [State.hasTotal, State.putHeader_status]
@[simp] theorem State.statusReserved_putHeader (s : State) (l : Byte) : (s.putHeader l).statusReserved = s.statusReserved := by simp only [State.statusReserved, State.putHeader_status]
@[simp] theorem State.err_putHeader (s : State) (l : Byte) : (s.putHeader l).err = s.err := by simp only [State.err, State.putHeader_status]

@[simp] theorem State.ckOk_dataBody (s : State) : s.dataBody.ckOk = s.ckOk := by simp only [State.ckOk, State.dataBody_status]
@[simp] theorem State.hasTotal_dataBody (s : State) : s.dataBody.hasTotal = s.hasTotal := by simp only [State.hasTotal, State.dataBody_status]
@[simp] theorem State.statusReserved_dataBody (s : State) : s.dataBody.statusReserved = s.statusReserved := by simp only [State.statusReserved, State.dataBody_status]
@[simp] theorem State.err_dataBody (s : State) : s.dataBody.err = s.err := by simp only [State.err, State.dataBody_status]

@[simp] theorem State.ckOk_loadPayload (s : State) : s.loadPayload.ckOk = s.ckOk := by simp only [State.ckOk, State.loadPayload_status]
@[simp] theorem State.hasTotal_loadPayload (s : State) : s.loadPayload.hasTotal = s.hasTotal := by simp only [State.hasTotal, State.loadPayload_status]
@[simp] theorem State.statusReserved_loadPayload (s : State) : s.loadPayload.statusReserved = s.statusReserved := by simp only [State.statusReserved, State.loadPayload_status]
@[simp] theorem State.err_loadPayload (s : State) : s.loadPayload.err = s.err := by simp only [State.err, State.loadPayload_status]

@[simp] theorem State.ckOk_zeroBuffers (s : State) : s.zeroBuffers.ckOk = s.ckOk := by simp only [State.ckOk, State.zeroBuffers_status]
@[simp] theorem State.hasTotal_zeroBuffers (s : State) : s.zeroBuffers.hasTotal = s.hasTotal := by simp only [State.hasTotal, State.zeroBuffers_status]
@[simp] theorem State.statusReserved_zeroBuffers (s : State) : s.zeroBuffers.statusReserved = s.statusReserved := by simp only [State.statusReserved, State.zeroBuffers_status]
@[simp] theorem State.err_zeroBuffers (s : State) : s.zeroBuffers.err = s.err := by simp only [State.err, State.zeroBuffers_status]

@[simp] theorem State.ckOk_zeroRegisters (s : State) : s.zeroRegisters.ckOk = s.ckOk := by simp only [State.ckOk, State.zeroRegisters_status]
@[simp] theorem State.hasTotal_zeroRegisters (s : State) : s.zeroRegisters.hasTotal = s.hasTotal := by simp only [State.hasTotal, State.zeroRegisters_status]
@[simp] theorem State.statusReserved_zeroRegisters (s : State) : s.zeroRegisters.statusReserved = s.statusReserved := by simp only [State.statusReserved, State.zeroRegisters_status]
@[simp] theorem State.err_zeroRegisters (s : State) : s.zeroRegisters.err = s.err := by simp only [State.err, State.zeroRegisters_status]

@[simp] theorem State.ckOk_setFb (s : State) (i : Nat) (b : Byte) : (s.setFb i b).ckOk = s.ckOk := by simp only [State.ckOk, State.setFb_status]
@[simp] theorem State.hasTotal_setFb (s : State) (i : Nat) (b : Byte) : (s.setFb i b).hasTotal = s.hasTotal := by simp only [State.hasTotal, State.setFb_status]
@[simp] theorem State.statusReserved_setFb (s : State) (i : Nat) (b : Byte) : (s.setFb i b).statusReserved = s.statusReserved := by simp only [State.statusReserved, State.setFb_status]
@[simp] theorem State.err_setFb (s : State) (i : Nat) (b : Byte) : (s.setFb i b).err = s.err := by simp only [State.err, State.setFb_status]

@[simp] theorem State.ckOk_setPb (s : State) (j : Nat) (b : Byte) : (s.setPb j b).ckOk = s.ckOk := by simp only [State.ckOk, State.setPb_status]
@[simp] theorem State.hasTotal_setPb (s : State) (j : Nat) (b : Byte) : (s.setPb j b).hasTotal = s.hasTotal := by simp only [State.hasTotal, State.setPb_status]
@[simp] theorem State.statusReserved_setPb (s : State) (j : Nat) (b : Byte) : (s.setPb j b).statusReserved = s.statusReserved := by simp only [State.statusReserved, State.setPb_status]
@[simp] theorem State.err_setPb (s : State) (j : Nat) (b : Byte) : (s.setPb j b).err = s.err := by simp only [State.err, State.setPb_status]

/-! ### The parsers' `STATUS` (42_parse.md R140, R141) -/

theorem State.loadTotal_status (s : State) :
    s.loadTotal.status = (s.setHasTotal (decide (s.fragSeq = 0#32))).status := by
  unfold State.loadTotal
  split
  · rename_i h; rw [decide_eq_true h]; rfl
  · rename_i h; rw [decide_eq_false h]

theorem State.parsedData_status (s : State) :
    s.parsedData.status = ((s.setCkOk true).setHasTotal (decide (s.frameFragSeq = 0#32))).status := by
  unfold State.parsedData; rw [State.loadTotal_status]; rfl

@[simp] theorem State.ckOk_parsedData (s : State) : s.parsedData.ckOk = true := by
  have h : s.parsedData.ckOk = ((s.setCkOk true).setHasTotal (decide (s.frameFragSeq = 0#32))).ckOk := by
    unfold State.ckOk; rw [State.parsedData_status]
  rw [h]; simp

@[simp] theorem State.hasTotal_parsedData (s : State) :
    s.parsedData.hasTotal = decide (s.frameFragSeq = 0#32) := by
  have h : s.parsedData.hasTotal = ((s.setCkOk true).setHasTotal (decide (s.frameFragSeq = 0#32))).hasTotal := by
    unfold State.hasTotal; rw [State.parsedData_status]
  rw [h]; simp

@[simp] theorem State.statusReserved_parsedData (s : State) : s.parsedData.statusReserved = s.statusReserved := by
  have h : s.parsedData.statusReserved =
      ((s.setCkOk true).setHasTotal (decide (s.frameFragSeq = 0#32))).statusReserved := by
    unfold State.statusReserved; rw [State.parsedData_status]
  rw [h]; simp

/-- `TOTSIZE` is written only where the parsed frame is of fragment 0 (42_parse.md R140). -/
theorem State.parsedData_totSize (s : State) :
    s.parsedData.totSize = if s.frameFragSeq = 0#32 then s.frameTotSize else s.totSize := by
  unfold State.parsedData State.loadTotal
  by_cases h : s.frameFragSeq = 0#32
  · rw [if_pos (by exact h), if_pos h]; rfl
  · rw [if_neg (by exact h), if_neg h]; rfl

@[simp] theorem State.ckOk_parsedAck (s : State) : s.parsedAck.ckOk = true := by simp [State.parsedAck]

@[simp] theorem State.hasTotal_parsedAck (s : State) : s.parsedAck.hasTotal = false := by simp [State.parsedAck]

@[simp] theorem State.statusReserved_parsedAck (s : State) : s.parsedAck.statusReserved = s.statusReserved := by
  simp [State.parsedAck]

/-- The code of an error is at most 6 (60_exceptions.md R201). -/
theorem ErrCode.code_le (c : ErrCode) : c.code.toNat ≤ 6 := by cases c <;> decide

end Sys2Proof.Machine
end

