-- ==== Sys2Proof/Laws/Memory.lean ====
section
/-! SUPPORT. The laws of the memory list: read after write, the canonical form kept by every operation, and equal
reads making equal memories (10_state.md R24, R25; log 8). -/

namespace Sys2Proof.Machine

open Sys2Proof

@[simp] theorem Memory.read_nil (a : Nat) : Memory.read [] a = 0#8 := rfl

theorem Memory.read_insert (m : Memory) (a : Nat) (b : Byte) (c : Nat) (h : ∀ x ∈ m, x.1 ≠ a) :
    Memory.read (Memory.insert m a b) c = if c = a then b else Memory.read m c := by
  induction m with
  | nil => simp [Memory.insert, Memory.read, eq_comm]
  | cons x rest ih =>
    obtain ⟨k, v⟩ := x
    have hk : k ≠ a := h (k, v) (by simp)
    have ih' := ih (fun x hx => h x (by simp [hx]))
    unfold Memory.insert
    split
    · simp only [Memory.read, eq_comm (a := a)]
    · simp only [Memory.read, ih']
      by_cases h1 : k = c
      · subst h1; simp [hk]
      · simp [h1]

theorem Memory.read_erase (m : Memory) (a c : Nat) :
    Memory.read (Memory.erase m a) c = if c = a then 0#8 else Memory.read m c := by
  induction m with
  | nil => simp [Memory.erase, Memory.read, Memory.unlisted]
  | cons x rest ih =>
    obtain ⟨k, v⟩ := x
    unfold Memory.erase
    split
    · rename_i h; subst h
      rw [ih]; by_cases h1 : c = k
      · simp [h1]
      · simp [Memory.read, h1, Ne.symm h1]
    · rename_i h
      simp only [Memory.read, ih]
      by_cases h1 : k = c
      · subst h1; simp [h]
      · simp [h1]

theorem Memory.mem_erase {m : Memory} {a : Nat} {x : Host.Cell} :
    x ∈ Memory.erase m a ↔ x ∈ m ∧ x.1 ≠ a := by
  induction m with
  | nil => simp [Memory.erase]
  | cons y rest ih =>
    obtain ⟨k, v⟩ := y
    unfold Memory.erase
    split
    · rename_i h; subst h; rw [ih]; constructor
      · rintro ⟨h1, h2⟩; exact ⟨by simp [h1], h2⟩
      · rintro ⟨h1, h2⟩; simp at h1; rcases h1 with rfl | h1
        · simp at h2
        · exact ⟨h1, h2⟩
    · rename_i h; simp only [List.mem_cons, ih]; constructor
      · rintro (rfl | ⟨h1, h2⟩)
        · exact ⟨.inl rfl, h⟩
        · exact ⟨.inr h1, h2⟩
      · rintro ⟨rfl | h1, h2⟩
        · exact .inl rfl
        · exact .inr ⟨h1, h2⟩

theorem Memory.mem_insert {m : Memory} {a : Nat} {b : Byte} {x : Host.Cell} :
    x ∈ Memory.insert m a b ↔ x = (a, b) ∨ x ∈ m := by
  induction m with
  | nil => simp [Memory.insert]
  | cons y rest ih =>
    obtain ⟨k, v⟩ := y
    unfold Memory.insert
    split
    · simp
    · simp only [List.mem_cons, ih]; tauto

/-- Read after write: the byte written, and every other byte as before. -/
@[simp] theorem Memory.read_write (m : Memory) (a : Nat) (b : Byte) (c : Nat) :
    Memory.read (Memory.write m a b) c = if c = a then b else Memory.read m c := by
  unfold Memory.write
  split
  · rename_i h; rw [Memory.read_erase]; simp [h, Memory.unlisted]
  · rw [Memory.read_insert _ _ _ _ (fun x hx => (Memory.mem_erase.1 hx).2), Memory.read_erase]
    split <;> simp_all

/-- What a run of writes leaves at each address. -/
@[simp] theorem Memory.read_writeRun (m : Memory) (base : Nat) (f : Nat → Byte) (n c : Nat) :
    Memory.read (Memory.writeRun m base f n) c =
      if base ≤ c ∧ c < base + n then f (c - base) else Memory.read m c := by
  induction n with
  | zero => simp [Memory.writeRun]
  | succ n ih =>
    simp only [Memory.writeRun, Memory.read_write, ih]
    by_cases h : c = base + n
    · subst h; simp
    · have : (base ≤ c ∧ c < base + (n + 1)) ↔ (base ≤ c ∧ c < base + n) := by omega
      simp [h, this]

theorem Memory.mem_write {m : Memory} {a : Nat} {b : Byte} {x : Host.Cell} (h : x ∈ Memory.write m a b) :
    x.1 = a ∨ x ∈ m := by
  unfold Memory.write at h
  split at h
  · exact .inr (Memory.mem_erase.1 h).1
  · rcases Memory.mem_insert.1 h with rfl | h
    · exact .inl rfl
    · exact .inr (Memory.mem_erase.1 h).1

theorem Memory.mem_writeRun {m : Memory} {base : Nat} {f : Nat → Byte} {n : Nat} {x : Host.Cell}
    (h : x ∈ Memory.writeRun m base f n) : (base ≤ x.1 ∧ x.1 < base + n) ∨ x ∈ m := by
  induction n with
  | zero => exact .inr h
  | succ n ih =>
    rcases Memory.mem_write h with h | h
    · exact .inl ⟨by omega, by omega⟩
    · rcases ih h with h | h
      · exact .inl ⟨h.1, by omega⟩
      · exact .inr h

@[simp] theorem Memory.wf_nil : Memory.wf [] := by simp [Memory.wf]

theorem Memory.wf_erase {m : Memory} (h : Memory.wf m) (a : Nat) : Memory.wf (Memory.erase m a) := by
  refine ⟨?_, fun c hc => h.2 c (Memory.mem_erase.1 hc).1⟩
  have h1 := h.1
  clear h
  induction m with
  | nil => simp [Memory.erase]
  | cons x rest ih =>
    obtain ⟨k, v⟩ := x
    rw [List.pairwise_cons] at h1
    unfold Memory.erase
    split
    · exact ih h1.2
    · exact List.pairwise_cons.2 ⟨fun y hy => h1.1 y (Memory.mem_erase.1 hy).1, ih h1.2⟩

theorem Memory.wf_insert {m : Memory} (h : Memory.wf m) {a : Nat} {b : Byte} (hb : b ≠ Memory.unlisted)
    (ha : ∀ x ∈ m, x.1 ≠ a) : Memory.wf (Memory.insert m a b) := by
  refine ⟨?_, fun c hc => ?_⟩
  · have h1 := h.1
    clear h
    induction m with
    | nil => simp [Memory.insert]
    | cons x rest ih =>
      obtain ⟨k, v⟩ := x
      have hk : k ≠ a := ha (k, v) (by simp)
      rw [List.pairwise_cons] at h1
      unfold Memory.insert
      split
      · rename_i hlt
        refine List.pairwise_cons.2 ⟨fun y hy => ?_, List.pairwise_cons.2 h1⟩
        rcases List.mem_cons.1 hy with rfl | hy
        · exact hlt
        · exact Nat.lt_trans hlt (h1.1 y hy)
      · refine List.pairwise_cons.2 ⟨fun y hy => ?_, ih (fun x hx => ha x (by simp [hx])) h1.2⟩
        rcases Memory.mem_insert.1 hy with rfl | hy
        · simp only; omega
        · exact h1.1 y hy
  · rcases Memory.mem_insert.1 hc with rfl | hc
    · exact hb
    · exact h.2 c hc

/-- A write keeps the canonical form. -/
theorem Memory.wf_write {m : Memory} (h : Memory.wf m) (a : Nat) (b : Byte) : Memory.wf (Memory.write m a b) := by
  unfold Memory.write
  split
  · exact Memory.wf_erase h a
  · rename_i hb
    exact Memory.wf_insert (Memory.wf_erase h a) hb (fun x hx => (Memory.mem_erase.1 hx).2)

/-- A run of writes keeps the canonical form. -/
theorem Memory.wf_writeRun {m : Memory} (h : Memory.wf m) (base : Nat) (f : Nat → Byte) (n : Nat) :
    Memory.wf (Memory.writeRun m base f n) := by
  induction n with
  | zero => exact h
  | succ n ih => exact Memory.wf_write ih _ _

/-- The entry of a canonical memory is what its address reads as. -/
theorem Memory.read_eq_of_mem {m : Memory} (h : Memory.wf m) {x : Host.Cell} (hx : x ∈ m) :
    Memory.read m x.1 = x.2 := by
  induction m with
  | nil => simp at hx
  | cons y rest ih =>
    obtain ⟨k, v⟩ := y
    obtain ⟨h1, h2⟩ := h
    rw [List.pairwise_cons] at h1
    unfold Memory.read
    rcases List.mem_cons.1 hx with rfl | hx
    · simp
    · have : k < x.1 := h1.1 x hx
      rw [if_neg (by omega)]
      exact ih ⟨h1.2, fun c hc => h2 c (by simp [hc])⟩ hx

/-- An address below every listed one reads as unlisted. -/
theorem Memory.read_of_lt {m : Memory} {a : Nat} (h : ∀ x ∈ m, a < x.1) : Memory.read m a = 0#8 := by
  induction m with
  | nil => rfl
  | cons y rest ih =>
    obtain ⟨k, v⟩ := y
    have : a < k := h (k, v) (by simp)
    unfold Memory.read
    rw [if_neg (by omega)]
    exact ih (fun x hx => h x (by simp [hx]))

/-- An address with no entry reads as unlisted. -/
theorem Memory.read_of_not_mem {m : Memory} {a : Nat} (h : ∀ x ∈ m, x.1 ≠ a) : Memory.read m a = 0#8 := by
  induction m with
  | nil => rfl
  | cons y rest ih =>
    obtain ⟨k, v⟩ := y
    unfold Memory.read
    rw [if_neg (h (k, v) (by simp))]
    exact ih (fun x hx => h x (by simp [hx]))

/-- Canonical memories that read alike are equal. -/
theorem Memory.ext_of_read {m n : Memory} (hm : Memory.wf m) (hn : Memory.wf n)
    (h : ∀ a, Memory.read m a = Memory.read n a) : m = n := by
  induction m generalizing n with
  | nil =>
    cases n with
    | nil => rfl
    | cons y rest =>
      have h1 := h y.1
      rw [Memory.read_eq_of_mem hn (by simp)] at h1
      exact absurd h1.symm (hn.2 y (by simp))
  | cons x rest ih =>
    cases n with
    | nil =>
      have h1 := h x.1
      rw [Memory.read_eq_of_mem hm (by simp)] at h1
      exact absurd h1 (hm.2 x (by simp))
    | cons y rest' =>
      have hm1 := List.pairwise_cons.1 hm.1
      have hn1 := List.pairwise_cons.1 hn.1
      have rx := Memory.read_eq_of_mem hm (x := x) (by simp)
      have ry := Memory.read_eq_of_mem hn (x := y) (by simp)
      have nx : x.2 ≠ 0#8 := hm.2 x (by simp)
      have ny : y.2 ≠ 0#8 := hn.2 y (by simp)
      have hxy : x.1 = y.1 := by
        rcases Nat.lt_trichotomy x.1 y.1 with hlt | heq | hlt
        · have : Memory.read (y :: rest') x.1 = 0#8 := Memory.read_of_lt (fun z hz => by
            rcases List.mem_cons.1 hz with rfl | hz
            · exact hlt
            · exact Nat.lt_trans hlt (hn1.1 z hz))
          rw [← h, rx] at this; exact absurd this nx
        · exact heq
        · have : Memory.read (x :: rest) y.1 = 0#8 := Memory.read_of_lt (fun z hz => by
            rcases List.mem_cons.1 hz with rfl | hz
            · exact hlt
            · exact Nat.lt_trans hlt (hm1.1 z hz))
          rw [h, ry] at this; exact absurd this ny
      have hv : x.2 = y.2 := by rw [← rx, ← ry, h, hxy]
      have hxy' : x = y := Prod.ext hxy hv
      subst hxy'
      congr 1
      refine ih ⟨hm1.2, fun c hc => hm.2 c (by simp [hc])⟩ ⟨hn1.2, fun c hc => hn.2 c (by simp [hc])⟩ (fun a => ?_)
      have ha := h a
      obtain ⟨k, v⟩ := x
      unfold Memory.read at ha
      by_cases hk : k = a
      · subst hk
        rw [Memory.read_of_lt (fun z hz => hm1.1 z hz), Memory.read_of_lt (fun z hz => hn1.1 z hz)]
      · simpa [hk] using ha

end Sys2Proof.Machine
end

