-- ==== Sys2Proof/Laws/Buffers.lean ====
section
/-! SUPPORT. What the buffers hold after each buffer operation (00_scope.md R13; 20_memory.md R53, R59). -/

namespace Sys2Proof.Machine

open Sys2Proof

/-! ### The capacity is fixed by the parameters -/

@[simp] theorem State.setFb_capacity (s : State) (i : Nat) (b : Byte) : (s.setFb i b).capacity = s.capacity :=
  State.capacity_congr (by simp)

@[simp] theorem State.setPb_capacity (s : State) (i : Nat) (b : Byte) : (s.setPb i b).capacity = s.capacity :=
  State.capacity_congr (by simp)

@[simp] theorem State.putLE16_capacity (s : State) (a : Nat) (v : Half) : (s.putLE16 a v).capacity = s.capacity :=
  State.capacity_congr (by simp)

@[simp] theorem State.putLE32_capacity (s : State) (a : Nat) (v : Word) : (s.putLE32 a v).capacity = s.capacity :=
  State.capacity_congr (by simp)

@[simp] theorem State.fillFb_capacity (s : State) (a : Nat) (f : Nat → Byte) (n : Nat) :
    (s.fillFb a f n).capacity = s.capacity := rfl

@[simp] theorem State.fillPb_capacity (s : State) (f : Nat → Byte) : (s.fillPb f).capacity = s.capacity := rfl

@[simp] theorem State.loadTotal_capacity (s : State) : s.loadTotal.capacity = s.capacity :=
  State.capacity_congr (by simp)

/-- `CAP <= 255` for a legal instance (00_scope.md R4). -/
theorem State.capacity_le {s : State} (h : s.params.Legal) : s.capacity ≤ 255 := by
  unfold State.capacity; have := h.2.1; omega

/-- `CAP >= 4` for a legal instance (00_scope.md R4). -/
theorem State.le_capacity {s : State} (h : s.params.Legal) : 4 ≤ s.capacity := by
  unfold State.capacity; have := h.1; omega

/-! ### Bytes at or beyond the end -/

theorem State.fb_of_le (s : State) {i : Nat} (h : s.params.frameSize ≤ i) : s.fb i = 0#8 := by
  unfold State.fb; rw [if_neg (by omega)]

theorem State.pb_of_le (s : State) {j : Nat} (h : s.capacity ≤ j) : s.pb j = 0#8 := by
  unfold State.pb; rw [if_neg (by omega)]

/-! ### What each address reads as -/

theorem State.read_setFb (s : State) (i : Nat) (b : Byte) (a : Nat) :
    Memory.read (s.setFb i b).mem a =
      if a = fbBase + i ∧ i < s.params.frameSize then b else Memory.read s.mem a := by
  unfold State.setFb
  split
  · rename_i h; simp [h]
  · rename_i h; simp [h]

theorem State.read_setPb (s : State) (j : Nat) (b : Byte) (a : Nat) :
    Memory.read (s.setPb j b).mem a =
      if a = pbBase + j ∧ j < s.capacity then b else Memory.read s.mem a := by
  unfold State.setPb
  split
  · rename_i h; simp [h]
  · rename_i h; simp [h]

theorem State.read_fillFb (s : State) (st : Nat) (f : Nat → Byte) (n a : Nat) :
    Memory.read (s.fillFb st f n).mem a =
      if fbBase + st ≤ a ∧ a < fbBase + st + n then f (a - (fbBase + st)) else Memory.read s.mem a := by
  simp

theorem State.read_fillPb (s : State) (f : Nat → Byte) (a : Nat) :
    Memory.read (s.fillPb f).mem a =
      if pbBase ≤ a ∧ a < pbBase + s.capacity then f (a - pbBase) else Memory.read s.mem a := by
  simp

/-- A `putLE32` within the frame changes no byte outside the FB window. -/
theorem State.read_putLE32_outside (s : State) (at_ : Nat) (v : Word) (a : Nat)
    (h : ¬ (fbBase ≤ a ∧ a < fbBase + s.params.frameSize)) :
    Memory.read (s.putLE32 at_ v).mem a = Memory.read s.mem a := by
  unfold State.putLE32
  simp only [State.read_setFb, State.setFb_params]
  rw [if_neg (by omega), if_neg (by omega), if_neg (by omega), if_neg (by omega)]

/-- A `putLE16` changes no byte but its two. -/
theorem State.read_putLE16_outside (s : State) (at_ : Nat) (v : Half) (a : Nat)
    (h0 : a ≠ fbBase + at_) (h1 : a ≠ fbBase + at_ + 1) :
    Memory.read (s.putLE16 at_ v).mem a = Memory.read s.mem a := by
  unfold State.putLE16
  simp only [State.read_setFb, State.setFb_params]
  rw [if_neg (by omega), if_neg (by omega)]

/-! ### `FB` after each operation -/

theorem State.fb_setFb (s : State) (i : Nat) (b : Byte) (k : Nat) :
    (s.setFb i b).fb k = if k = i ∧ i < s.params.frameSize then b else s.fb k := by
  unfold State.fb
  simp only [State.setFb_params, State.read_setFb]
  by_cases h : k < s.params.frameSize
  · by_cases h1 : k = i
    · subst h1; simp [h]
    · simp [h1]
  · have : ¬ (k = i ∧ i < s.params.frameSize) := by omega
    simp [h, this]

theorem State.fb_fillFb (s : State) (st : Nat) (f : Nat → Byte) (n k : Nat) :
    (s.fillFb st f n).fb k =
      if st ≤ k ∧ k < st + n ∧ k < s.params.frameSize then f (k - st) else s.fb k := by
  unfold State.fb
  simp only [State.fillFb_params, State.read_fillFb]
  by_cases h : k < s.params.frameSize
  · simp only [h, if_true, and_true]
    by_cases h1 : st ≤ k ∧ k < st + n
    · rw [if_pos (by omega), if_pos h1]
      congr 1; omega
    · rw [if_neg (by omega), if_neg h1]
  · rw [if_neg h, if_neg (by omega), if_neg h]

theorem State.fb_putLE16 (s : State) (a : Nat) (v : Half) (h : a + 1 < s.params.frameSize) (k : Nat) :
    (s.putLE16 a v).fb k =
      if k = a then v.extractLsb' 0 8 else if k = a + 1 then v.extractLsb' 8 8 else s.fb k := by
  unfold State.putLE16
  simp only [State.fb_setFb, State.setFb_params]
  have h0 : a < s.params.frameSize := by omega
  simp only [h, h0, and_true]
  by_cases h1 : k = a
  · subst h1; simp
  · simp [h1]

/-- `putLE32` writes four bytes, byte `n` of the value at offset `a + n` (00_scope.md R13). -/
theorem State.fb_putLE32 (s : State) (a : Nat) (v : Word) (h : a + 3 < s.params.frameSize) (k : Nat) :
    (s.putLE32 a v).fb k = if a ≤ k ∧ k < a + 4 then v.extractLsb' (8 * (k - a)) 8 else s.fb k := by
  unfold State.putLE32
  simp only [State.fb_setFb, State.setFb_params]
  by_cases hk : a ≤ k ∧ k < a + 4
  · obtain ⟨n, rfl⟩ := Nat.exists_eq_add_of_le hk.1
    have hn : n = 0 ∨ n = 1 ∨ n = 2 ∨ n = 3 := by omega
    have hF : ∀ m, m < 4 → a + m < s.params.frameSize := fun m hm => by omega
    rcases hn with rfl | rfl | rfl | rfl <;> simp [hF, (by omega : a < s.params.frameSize)]
  · have hne : ∀ m, m < 4 → k ≠ a + m := fun m hm => by omega
    simp [hk, hne 1, hne 2, hne 3, (by simpa using hne 0 : k ≠ a)]

theorem State.fb_setPb {s : State} (hs : s.params.Legal) (j : Nat) (b : Byte) (k : Nat) :
    (s.setPb j b).fb k = s.fb k := by
  have := State.capacity_le hs
  unfold State.fb
  simp only [State.setPb_params, State.read_setPb]
  have h : ¬ (fbBase + k = pbBase + j ∧ j < s.capacity) := by unfold fbBase pbBase; omega
  simp only [h, if_false]

theorem State.fb_fillPb {s : State} (hs : s.params.Legal) (f : Nat → Byte) (k : Nat) :
    (s.fillPb f).fb k = s.fb k := by
  have := State.capacity_le hs
  unfold State.fb
  simp only [State.fillPb_params, State.read_fillPb]
  have h : ¬ (pbBase ≤ fbBase + k ∧ fbBase + k < pbBase + s.capacity) := by unfold fbBase pbBase; omega
  simp only [h, if_false]

/-! ### `PB` after each operation -/

theorem State.pb_setPb (s : State) (j : Nat) (b : Byte) (k : Nat) :
    (s.setPb j b).pb k = if k = j ∧ j < s.capacity then b else s.pb k := by
  unfold State.pb
  simp only [State.setPb_capacity, State.read_setPb]
  by_cases h : k < s.capacity
  · by_cases h1 : k = j
    · subst h1; simp [h]
    · simp [h1]
  · have : ¬ (k = j ∧ j < s.capacity) := by omega
    simp [h, this]

theorem State.pb_fillPb (s : State) (f : Nat → Byte) (k : Nat) :
    (s.fillPb f).pb k = if k < s.capacity then f k else 0#8 := by
  unfold State.pb
  simp only [State.fillPb_capacity, State.read_fillPb]
  by_cases h : k < s.capacity
  · rw [if_pos h, if_pos (by omega), if_pos h, Nat.add_sub_cancel_left]
  · rw [if_neg h, if_neg h]

/-- A state whose bytes outside the FB window are those of `s` has the same `PB`. -/
theorem State.pb_of_outside {s t : State} (hs : s.params.Legal) (hp : t.params = s.params)
    (h : ∀ a, ¬ (fbBase ≤ a ∧ a < fbBase + s.params.frameSize) → Memory.read t.mem a = Memory.read s.mem a)
    (j : Nat) : t.pb j = s.pb j := by
  have hc : t.capacity = s.capacity := State.capacity_congr hp
  have := State.capacity_le hs
  unfold State.pb
  rw [hc]
  by_cases hj : j < s.capacity
  · rw [if_pos hj, if_pos hj, h _ (by unfold fbBase pbBase; omega)]
  · rw [if_neg hj, if_neg hj]

/-! ### The little-endian fields as numbers -/

theorem State.le16_toNat (s : State) (a : Nat) :
    (s.le16 a).toNat = (s.fb a).toNat + 256 * (s.fb (a + 1)).toNat := by
  unfold State.le16
  rw [BitVec.toNat_append, ← Nat.shiftLeft_add_eq_or_of_lt (s.fb a).isLt, Nat.shiftLeft_eq]
  omega

theorem State.le32_toNat (s : State) (a : Nat) :
    (s.le32 a).toNat = (s.fb a).toNat + 2 ^ 8 * (s.fb (a + 1)).toNat + 2 ^ 16 * (s.fb (a + 2)).toNat +
      2 ^ 24 * (s.fb (a + 3)).toNat := by
  unfold State.le32
  simp only [BitVec.toNat_append]
  rw [← Nat.shiftLeft_add_eq_or_of_lt (s.fb (a + 2)).isLt, ← Nat.shiftLeft_add_eq_or_of_lt (s.fb (a + 1)).isLt,
    ← Nat.shiftLeft_add_eq_or_of_lt (s.fb a).isLt]
  simp only [Nat.shiftLeft_eq]
  omega

/-- A 16-bit value is its two bytes. -/
theorem half_of_bytes (v : Half) : v.extractLsb' 8 8 ++ v.extractLsb' 0 8 = v := by
  apply BitVec.eq_of_toNat_eq
  rw [BitVec.toNat_append, ← Nat.shiftLeft_add_eq_or_of_lt (BitVec.isLt _), Nat.shiftLeft_eq]
  simp only [BitVec.extractLsb'_toNat, Nat.shiftRight_eq_div_pow]
  have := v.isLt
  omega

/-- A 32-bit value is its four bytes. -/
theorem word_of_bytes (v : Word) :
    v.extractLsb' 24 8 ++ v.extractLsb' 16 8 ++ v.extractLsb' 8 8 ++ v.extractLsb' 0 8 = v := by
  apply BitVec.eq_of_toNat_eq
  simp only [BitVec.toNat_append]
  rw [← Nat.shiftLeft_add_eq_or_of_lt (BitVec.isLt _), ← Nat.shiftLeft_add_eq_or_of_lt (BitVec.isLt _),
    ← Nat.shiftLeft_add_eq_or_of_lt (BitVec.isLt _)]
  simp only [Nat.shiftLeft_eq, BitVec.extractLsb'_toNat, Nat.shiftRight_eq_div_pow]
  have := v.isLt
  omega

/-- What `putLE32` stores is what `LE32` reads back (00_scope.md R13). -/
theorem State.le32_putLE32 (s : State) (a : Nat) (v : Word) (h : a + 3 < s.params.frameSize) :
    (s.putLE32 a v).le32 a = v := by
  unfold State.le32
  simp only [State.fb_putLE32 s a v h]
  simpa using word_of_bytes v

/-- What `putLE16` stores is what `LE16` reads back (00_scope.md R13). -/
theorem State.le16_putLE16 (s : State) (a : Nat) (v : Half) (h : a + 1 < s.params.frameSize) :
    (s.putLE16 a v).le16 a = v := by
  unfold State.le16
  simp only [State.fb_putLE16 s a v h]
  simp only [Nat.add_eq_left, if_true, if_false, one_ne_zero]
  exact half_of_bytes v

theorem State.le32_congr {s t : State} {a : Nat} (h : ∀ i, a ≤ i → i < a + 4 → t.fb i = s.fb i) :
    t.le32 a = s.le32 a := by
  unfold State.le32
  rw [h a (by omega) (by omega), h (a + 1) (by omega) (by omega), h (a + 2) (by omega) (by omega),
    h (a + 3) (by omega) (by omega)]

theorem State.le16_congr {s t : State} {a : Nat} (h : ∀ i, a ≤ i → i < a + 2 → t.fb i = s.fb i) :
    t.le16 a = s.le16 a := by
  unfold State.le16
  rw [h a (by omega) (by omega), h (a + 1) (by omega) (by omega)]

/-- `putLE16` of what is already stored changes no byte. -/
theorem State.fb_putLE16_self (s : State) (a : Nat) (v : Half) (h : a + 1 < s.params.frameSize) (hv : s.le16 a = v)
    (k : Nat) : (s.putLE16 a v).fb k = s.fb k := by
  have h0 : v.extractLsb' 0 8 = s.fb a := by
    rw [← hv]; unfold State.le16
    apply BitVec.eq_of_toNat_eq
    rw [BitVec.extractLsb'_toNat, BitVec.toNat_append, ← Nat.shiftLeft_add_eq_or_of_lt (BitVec.isLt _),
      Nat.shiftLeft_eq]
    have := (s.fb a).isLt
    omega
  have h1 : v.extractLsb' 8 8 = s.fb (a + 1) := by
    rw [← hv]; unfold State.le16
    apply BitVec.eq_of_toNat_eq
    rw [BitVec.extractLsb'_toNat, BitVec.toNat_append, ← Nat.shiftLeft_add_eq_or_of_lt (BitVec.isLt _),
      Nat.shiftLeft_eq, Nat.shiftRight_eq_div_pow]
    have := (s.fb a).isLt
    have := (s.fb (a + 1)).isLt
    omega
  rw [State.fb_putLE16 s a v h, h0, h1]
  by_cases k0 : k = a
  · simp [k0]
  · by_cases k1 : k = a + 1
    · simp [k1]
    · simp [k0, k1]

end Sys2Proof.Machine
end

