-- ==== Sys2Proof/Laws/Checksum.lean ====
section
/-! SUPPORT. The checksum function against the numbers of 40_checksum.md R100 to R102, and what a change of one word
does to it. -/

namespace Sys2Proof.Machine

open Sys2Proof Sys2Proof.Safety

theorem State.coveredWord_eq (s : State) (i : Nat) : s.coveredWord i = LE16At s (2 + 2 * i) := by
  unfold State.coveredWord LE16At
  rw [show 2 + 2 * i + 1 = 3 + 2 * i by omega]
  split
  · rfl
  · rename_i h; rw [s.fb_of_le (i := 3 + 2 * i) (by omega)]; rfl

theorem State.sumWords_eq (s : State) (n : Nat) :
    s.sumWords n = ∑ i ∈ Finset.range n, LE16At s (2 + 2 * i) := by
  induction n with
  | zero => rfl
  | succ n ih => rw [Finset.sum_range_succ, State.sumWords, ih, State.coveredWord_eq]

/-- The checksum is the sum of the covered words modulo 2^16 (40_checksum.md R100). -/
theorem State.csum_toNat (s : State) : s.csum.toNat = coveredSum s % 65536 := by
  unfold State.csum coveredSum State.wordCount
  rw [BitVec.toNat_ofNat, State.sumWords_eq, show (s.params.frameSize - 2 + 1) / 2 = (s.params.frameSize - 1) / 2 by omega]

theorem State.csum_eq_ofNat (s : State) : s.csum = BitVec.ofNat 16 (coveredSum s) := by
  apply BitVec.eq_of_toNat_eq; rw [State.csum_toNat, BitVec.toNat_ofNat]

theorem State.stored_toNat (s : State) : s.stored.toNat = LE16At s 0 := s.le16_toNat 0

theorem LE16At_lt (s : State) (a : Nat) : LE16At s a < 65536 := by
  unfold LE16At; have := (s.fb a).isLt; have := (s.fb (a + 1)).isLt; omega

theorem State.le32_eq_LE32At (s : State) (a : Nat) : (s.le32 a).toNat = LE32At s a := s.le32_toNat a

/-- A frame is valid when its sum is the stored number (40_checksum.md R102). -/
theorem State.frameValid_iff (s : State) : s.frameValid = true ↔ ChecksumValid s := by
  unfold State.frameValid ChecksumValid
  rw [beq_iff_eq, ← State.csum_toNat, ← State.stored_toNat]
  exact ⟨fun h => by rw [h], BitVec.eq_of_toNat_eq⟩

theorem State.frameValid_false_iff (s : State) : s.frameValid = false ↔ ¬ ChecksumValid s := by
  rw [← State.frameValid_iff]; simp

/-! ### Sealing -/

/-- What SEAL leaves in each byte of `FB` (40_checksum.md R105). -/
theorem State.fb_sealFrame {s : State} (hs : 2 ≤ s.params.frameSize) (k : Nat) :
    s.sealFrame.fb k =
      if k = 0 then s.csum.extractLsb' 0 8 else if k = 1 then s.csum.extractLsb' 8 8 else s.fb k := by
  have h : s.sealFrame.fb k = (s.putLE16 0 s.csum).fb k := State.fb_congr (by simp) rfl k
  rw [h, State.fb_putLE16 s 0 s.csum (by omega)]

theorem State.csum_sealFrame {s : State} (hs : 2 ≤ s.params.frameSize) : s.sealFrame.csum = s.csum :=
  State.csum_congr (by simp) (fun i hi => by
    rw [State.fb_sealFrame hs, if_neg (by omega), if_neg (by omega)])

theorem State.stored_sealFrame {s : State} (hs : 2 ≤ s.params.frameSize) : s.sealFrame.stored = s.csum := by
  have h : s.sealFrame.stored = (s.putLE16 0 s.csum).le16 0 :=
    State.le16_congr (fun i _ _ => State.fb_congr (by simp) rfl i)
  rw [h, State.le16_putLE16 s 0 s.csum (by omega)]

/-- A sealed frame is checksum-valid (40_checksum.md R109). -/
theorem State.frameValid_sealFrame {s : State} (hs : 2 ≤ s.params.frameSize) : s.sealFrame.frameValid = true := by
  unfold State.frameValid; rw [State.csum_sealFrame hs, State.stored_sealFrame hs]; simp

/-! ### Changing words -/

theorem LE16At_congr {s t : State} {a : Nat} (h0 : t.fb a = s.fb a) (h1 : t.fb (a + 1) = s.fb (a + 1)) :
    LE16At t a = LE16At s a := by unfold LE16At; rw [h0, h1]

/-- Two states whose covered words differ only in word `k`: their sums differ by that word's change. -/
theorem coveredSum_change {s t : State} {k : Nat} (hp : t.params = s.params)
    (hk : 2 + 2 * k < s.params.frameSize)
    (h : ∀ i, 2 ≤ i → i ≠ 2 + 2 * k → i ≠ 3 + 2 * k → t.fb i = s.fb i) :
    coveredSum t + LE16At s (2 + 2 * k) = coveredSum s + LE16At t (2 + 2 * k) := by
  have hmem : k ∈ Finset.range ((s.params.frameSize - 1) / 2) := Finset.mem_range.2 (by omega)
  unfold coveredSum
  rw [hp, ← Finset.add_sum_erase _ _ hmem, ← Finset.add_sum_erase _ _ hmem]
  have hrest : ∑ i ∈ (Finset.range ((s.params.frameSize - 1) / 2)).erase k, LE16At t (2 + 2 * i) =
      ∑ i ∈ (Finset.range ((s.params.frameSize - 1) / 2)).erase k, LE16At s (2 + 2 * i) :=
    Finset.sum_congr rfl (fun i hi => by
      have hik : i ≠ k := (Finset.mem_erase.1 hi).1
      exact LE16At_congr (h _ (by omega) (by omega) (by omega)) (h _ (by omega) (by omega) (by omega)))
  rw [hrest]; omega

/-- States with the same covered bytes have the same sum. -/
theorem coveredSum_congr {s t : State} (hp : t.params = s.params) (h : ∀ i, 2 ≤ i → t.fb i = s.fb i) :
    coveredSum t = coveredSum s := by
  unfold coveredSum; rw [hp]
  exact Finset.sum_congr rfl (fun i _ => LE16At_congr (h _ (by omega)) (h _ (by omega)))

end Sys2Proof.Machine
end

