-- ==== Sys2Proof/Laws/Exec.lean ====
section
/-! SUPPORT. Say once what each command can do: one lemma per meaning, which later proofs cite instead of
unfolding it. -/

namespace Sys2Proof.Machine

open Sys2Proof Sys2Proof.Safety

/-- A command has one next state. -/
theorem exec_next_unique {i : Instr} {s t u : State} (h : exec i s = .next t) (h' : exec i s = .next u) : t = u := by
  rw [h] at h'; exact Host.Outcome.next.inj h'

theorem exec_nop (s : State) : exec .nop s = .next (s.setErr .none) := rfl

theorem exec_csum (s : State) : exec .csum s = .next (s.recordCsum.setErr .none) := rfl

/-- VERIFY has two outcomes (40_checksum.md R104). -/
theorem exec_verify (s : State) :
    (ChecksumValid s ∧ exec .verify s = .next ((s.recordCsum.setCkOk true).setErr .none)) ∨
    (¬ ChecksumValid s ∧ exec .verify s = .next ((s.recordCsum.setCkOk false).setErr .badChecksum)) := by
  rw [← State.frameValid_iff]
  simp only [exec, execVerify, State.complete_eq, State.raiseError_eq]
  cases s.frameValid <;> simp

theorem exec_verify_valid {s : State} (h : ChecksumValid s) :
    exec .verify s = .next ((s.recordCsum.setCkOk true).setErr .none) := by
  rcases exec_verify s with ⟨_, h2⟩ | ⟨h1, _⟩
  · exact h2
  · exact absurd h h1

theorem exec_verify_invalid {s : State} (h : ¬ ChecksumValid s) :
    exec .verify s = .next ((s.recordCsum.setCkOk false).setErr .badChecksum) := by
  rcases exec_verify s with ⟨h1, _⟩ | ⟨_, h2⟩
  · exact absurd h1 h
  · exact h2

theorem exec_seal (s : State) : exec .sealFrame s = .next (s.sealFrame.setErr .none) := rfl

/-- `cap(s)` as the numbers of 30_encoding.md R72. -/
theorem State.capOf_eq (s : State) (q : Word) : s.capOf q = frameCap s q.toNat := by
  unfold State.capOf frameCap State.capacity
  have : (q = 0#32) ↔ q.toNat = 0 := ⟨fun h => by simp [h], fun h => BitVec.eq_of_toNat_eq (by simpa using h)⟩
  by_cases h : q = 0#32
  · rw [if_pos h, if_pos (this.1 h)]; omega
  · rw [if_neg h, if_neg (fun h' => h (this.2 h'))]

theorem payloadOffset_eq (q : Word) : payloadOffset q = frameStart q.toNat := by
  unfold payloadOffset frameStart
  have : (q = 0#32) ↔ q.toNat = 0 := ⟨fun h => by simp [h], fun h => BitVec.eq_of_toNat_eq (by simpa using h)⟩
  by_cases h : q = 0#32
  · rw [if_pos h, if_pos (this.1 h)]
  · rw [if_neg h, if_neg (fun h' => h (this.2 h'))]

/-- FMT_DATA has two outcomes (41_format.md R120). -/
theorem exec_fmtData (s : State) :
    (frameCap s s.fragSeq.toNat < s.plen.toNat ∧ exec .fmtData s = .next (s.setErr .plenRange)) ∨
    (s.plen.toNat ≤ frameCap s s.fragSeq.toNat ∧ exec .fmtData s = .next (s.dataBody.sealFrame.setErr .none)) := by
  simp only [exec, execFmtData, State.complete_eq, State.raiseError_eq, State.capOf_eq]
  by_cases h : frameCap s s.fragSeq.toNat < s.plen.toNat
  · exact .inl ⟨h, by rw [if_pos h]⟩
  · exact .inr ⟨by omega, by rw [if_neg h]⟩

theorem exec_fmtData_fits {s : State} (h : s.plen.toNat ≤ frameCap s s.fragSeq.toNat) :
    exec .fmtData s = .next (s.dataBody.sealFrame.setErr .none) := by
  rcases exec_fmtData s with ⟨h1, _⟩ | ⟨_, h2⟩
  · omega
  · exact h2

theorem exec_fmtAck (s : State) : exec .fmtAck s = .next ((s.putHeader 0#8).sealFrame.setErr .none) := rfl

/-- PARSE_DATA has three outcomes (42_parse.md R140). -/
theorem exec_parseData (s : State) :
    (¬ ChecksumValid s ∧ exec .parseData s =
      .next (((s.recordCsum.setCkOk false).setHasTotal false).setErr .badChecksum)) ∨
    (ChecksumValid s ∧ frameCap s (LE32At s 6) < (s.fb 10).toNat ∧
      exec .parseData s = .next (s.parsedData.setErr .malformed)) ∨
    (ChecksumValid s ∧ (s.fb 10).toNat ≤ frameCap s (LE32At s 6) ∧
      exec .parseData s = .next (s.parsedData.loadPayload.setErr .none)) := by
  have hcap : s.parsedData.capOf s.parsedData.fragSeq = frameCap s (LE32At s 6) := by
    rw [State.capOf_eq]
    have h1 : s.parsedData.fragSeq.toNat = LE32At s 6 := by
      rw [← State.le32_eq_LE32At]; simp [State.parsedData, State.frameFragSeq]
    have h2 : s.parsedData.params = s.params := by simp [State.parsedData]
    unfold frameCap; rw [h1, h2]
  have hpl : s.parsedData.plen = s.fb 10 := by simp [State.parsedData, State.framePlen]
  rw [← State.frameValid_iff]
  simp only [exec, execParseData, State.complete_eq, State.raiseError_eq]
  cases s.frameValid
  · simp
  · rw [hcap, hpl]
    by_cases h : frameCap s (LE32At s 6) < (s.fb 10).toNat
    · simp [h]
    · simp [h]; omega

theorem exec_parseData_accepts {s : State} (hv : ChecksumValid s) (h : (s.fb 10).toNat ≤ frameCap s (LE32At s 6)) :
    exec .parseData s = .next (s.parsedData.loadPayload.setErr .none) := by
  rcases exec_parseData s with ⟨h1, _⟩ | ⟨_, h1, _⟩ | ⟨_, _, h2⟩
  · exact absurd hv h1
  · omega
  · exact h2

/-- PARSE_ACK has three outcomes (42_parse.md R141). -/
theorem exec_parseAck (s : State) :
    (¬ ChecksumValid s ∧ exec .parseAck s =
      .next (((s.recordCsum.setHasTotal false).setCkOk false).setErr .badChecksum)) ∨
    (ChecksumValid s ∧ s.fb 10 ≠ 0#8 ∧ exec .parseAck s = .next (s.parsedAck.setErr .malformed)) ∨
    (ChecksumValid s ∧ s.fb 10 = 0#8 ∧ exec .parseAck s = .next (s.parsedAck.setErr .none)) := by
  have hpl : s.parsedAck.plen = s.fb 10 := by simp [State.parsedAck, State.framePlen]
  rw [← State.frameValid_iff]
  simp only [exec, execParseAck, State.complete_eq, State.raiseError_eq]
  cases s.frameValid
  · simp
  · rw [hpl]
    by_cases h : s.fb 10 = 0#8 <;> simp [h]

theorem exec_parseAck_accepts {s : State} (hv : ChecksumValid s) (h : s.fb 10 = 0#8) :
    exec .parseAck s = .next (s.parsedAck.setErr .none) := by
  rcases exec_parseAck s with ⟨h1, _⟩ | ⟨_, h1, _⟩ | ⟨_, _, h2⟩
  · exact absurd hv h1
  · exact absurd h h1
  · exact h2

/-- FRAG_COUNT has two outcomes (43_fragment.md R162). -/
theorem exec_fragCount (s : State) :
    (s.params.maxMsg < s.msgLen.toNat ∧ exec .fragCount s = .next (s.setErr .oversize)) ∨
    (s.msgLen.toNat ≤ s.params.maxMsg ∧ exec .fragCount s = .next (s.recordCount.setErr .none)) := by
  simp only [exec, execFragCount, State.complete_eq, State.raiseError_eq, State.oversize]
  by_cases h : s.params.maxMsg < s.msgLen.toNat
  · exact .inl ⟨h, by simp [h]⟩
  · exact .inr ⟨by omega, by simp [h]⟩

/-- FRAG_SLICE has three outcomes (43_fragment.md R163). -/
theorem exec_fragSlice (s : State) :
    (s.params.maxMsg < s.msgLen.toNat ∧ exec .fragSlice s = .next (s.setErr .oversize)) ∨
    (s.msgLen.toNat ≤ s.params.maxMsg ∧ s.countOf s.msgLen.toNat ≤ s.fragIdx.toNat ∧
      exec .fragSlice s = .next (s.recordCount.setErr .fragRange)) ∨
    (s.msgLen.toNat ≤ s.params.maxMsg ∧ s.fragIdx.toNat < s.countOf s.msgLen.toNat ∧
      exec .fragSlice s = .next (s.recordCount.recordSlice.setErr .none)) := by
  simp only [exec, execFragSlice, State.complete_eq, State.raiseError_eq, State.oversize]
  by_cases h : s.params.maxMsg < s.msgLen.toNat
  · exact .inl ⟨h, by simp [h]⟩
  · by_cases h2 : s.countOf s.msgLen.toNat ≤ s.fragIdx.toNat
    · exact .inr (.inl ⟨by omega, h2, by simp [h, h2]⟩)
    · exact .inr (.inr ⟨by omega, by omega, by simp [h, h2]⟩)

theorem exec_clear (s : State) :
    exec .clear s = .next (((s.zeroBuffers.zeroRegisters.setCkOk false).setHasTotal false).setErr .none) := rfl

/-! ### The frames the formatters build -/

/-- Each byte after `putHeader`: the fields of 30_encoding.md R70 at their offsets, 0 elsewhere. -/
theorem State.fb_putHeader {s : State} (hs : s.params.Legal) (len : Byte) (k : Nat) :
    (s.putHeader len).fb k =
      if k = 10 then len
      else if 6 ≤ k ∧ k < 10 then s.fragSeq.extractLsb' (8 * (k - 6)) 8
      else if 2 ≤ k ∧ k < 6 then s.msgSeq.extractLsb' (8 * (k - 2)) 8
      else 0#8 := by
  have hF := hs.1
  unfold State.putHeader
  rw [State.fb_setFb, State.fb_putLE32 _ _ _ (by simp; omega), State.fb_putLE32 _ _ _ (by simp; omega),
    State.fb_fillFb]
  have h10 : 10 < s.params.frameSize := by omega
  simp only [State.putLE32_params, State.fillFb_params, h10, and_true]
  have hzero : (if 0 ≤ k ∧ k < 0 + s.params.frameSize ∧ k < s.params.frameSize then 0#8 else s.fb k) = 0#8 := by
    split
    · rfl
    · exact s.fb_of_le (by omega)
  rw [hzero]

/-- After the header every byte is 0 (41_format.md R120, R121). -/
theorem State.fb_putHeader_rest {s : State} (hs : s.params.Legal) (len : Byte) {k : Nat} (hk : 11 ≤ k) :
    (s.putHeader len).fb k = 0#8 := by
  rw [State.fb_putHeader hs]
  split_ifs <;> first | rfl | omega

/-- The total-size field of a fragment-0 data frame (30_encoding.md R71). -/
theorem State.fb_putTotal {s : State} (hs : s.params.Legal) (k : Nat) :
    s.putTotal.fb k =
      if s.fragSeq = 0#32 ∧ 11 ≤ k ∧ k < 15 then s.totSize.extractLsb' (8 * (k - 11)) 8 else s.fb k := by
  have hF := hs.1
  unfold State.putTotal
  by_cases h : s.fragSeq = 0#32
  · rw [if_pos h, State.fb_putLE32 _ _ _ (by omega)]; simp [h]
  · simp [h]

theorem State.fb_putPayload (s : State) (k : Nat) :
    s.putPayload.fb k =
      if payloadOffset s.fragSeq ≤ k ∧ k < payloadOffset s.fragSeq + s.plen.toNat ∧ k < s.params.frameSize then
        s.pb (k - payloadOffset s.fragSeq) else s.fb k := by
  unfold State.putPayload; rw [State.fb_fillFb]

end Sys2Proof.Machine
end

