-- ==== Sys2Proof/Laws/Fragment.lean ====
section
/-! SUPPORT. The fragment arithmetic of 43_fragment.md R160 and R161, and that the registers it is written to hold
it without wrapping. -/

namespace Sys2Proof.Machine

open Sys2Proof Sys2Proof.Safety

theorem State.countOf_mono {s : State} {m n : Nat} (h : m ≤ n) : s.countOf m ≤ s.countOf n :=
  Nat.div_le_div_right (by omega)

/-- The count of an accepted size fits in `FRAGCNT` (10_state.md R36). -/
theorem State.countOf_lt {s : State} (hl : s.params.Legal) {n : Nat} (h : n ≤ s.params.maxMsg) :
    s.countOf n < 2 ^ 32 := by
  have h4 := State.le_capacity hl
  have h255 := State.capacity_le hl
  have hm := hl.2.2
  unfold State.countOf
  rw [Nat.div_lt_iff_lt_mul (by omega)]
  calc n + 4 + s.capacity - 1 < 4294967295 + 4 + 256 := by omega
    _ ≤ 2 ^ 32 * 4 := by decide
    _ ≤ 2 ^ 32 * s.capacity := Nat.mul_le_mul_left _ h4

/-- `k` is a fragment index exactly when its slice starts before the end of the total-size field and the message
(43_fragment.md R160). -/
theorem State.lt_countOf_iff {s : State} (hl : s.params.Legal) {n k : Nat} :
    k < s.countOf n ↔ k * s.capacity < n + 4 := by
  have h4 := State.le_capacity hl
  unfold State.countOf
  rw [Nat.lt_iff_add_one_le, Nat.le_div_iff_mul_le (by omega), Nat.add_mul]
  omega

/-- The offset of a fragment is 0 or lies within the message (43_fragment.md R161). -/
theorem State.offOf_lt {s : State} (hl : s.params.Legal) {n k : Nat} (h : k < s.countOf n) :
    s.offOf k = 0 ∨ s.offOf k < n := by
  rw [State.lt_countOf_iff hl] at h
  have h4 := State.le_capacity hl
  unfold State.offOf
  split
  · exact .inl rfl
  · right
    have : s.capacity ≤ k * s.capacity := Nat.le_mul_of_pos_left _ (by omega)
    omega

/-- The length of a slice is at most `CAP` (43_fragment.md R161). -/
theorem State.lenOf_le (s : State) (n k : Nat) : s.lenOf n k ≤ s.capacity := by
  unfold State.lenOf; split <;> omega

theorem State.recordCount_toNat {s : State} (hl : s.params.Legal) (h : s.msgLen.toNat ≤ s.params.maxMsg) :
    s.recordCount.fragCnt.toNat = s.countOf s.msgLen.toNat := by
  simp; exact State.countOf_lt hl h

theorem State.recordSlice_off_toNat {s : State} (hl : s.params.Legal) (_hn : s.msgLen.toNat ≤ s.params.maxMsg)
    (hk : s.fragIdx.toNat < s.countOf s.msgLen.toNat) :
    s.recordSlice.sliceOff.toNat = s.offOf s.fragIdx.toNat := by
  unfold State.recordSlice
  have := State.offOf_lt hl hk
  have := hl.2.2
  rw [BitVec.toNat_ofNat]
  omega

theorem State.recordSlice_len_toNat {s : State} (hl : s.params.Legal) :
    s.recordSlice.sliceLen.toNat = s.lenOf s.msgLen.toNat s.fragIdx.toNat := by
  unfold State.recordSlice
  have := s.lenOf_le s.msgLen.toNat s.fragIdx.toNat
  have := State.capacity_le hl
  rw [BitVec.toNat_ofNat]
  omega

end Sys2Proof.Machine
end

