-- ==== Sys2Proof/Laws/Frames.lean ====
section
/-! SUPPORT. The bytes of the frames the formatters build (41_format.md R120, R121), and that formatting writes no
byte outside `FB`. -/

namespace Sys2Proof.Machine

open Sys2Proof Sys2Proof.Safety

/-- The payload of a frame ends within the frame (30_encoding.md R72). -/
theorem frameStart_add_le {s : State} (hl : s.params.Legal) (h : s.plen.toNat ≤ frameCap s s.fragSeq.toNat) :
    frameStart s.fragSeq.toNat + s.plen.toNat ≤ s.params.frameSize := by
  have := hl.1
  unfold frameCap at h; unfold frameStart; split at h <;> simp_all <;> omega

theorem State.fragSeq_eq_zero {s : State} : s.fragSeq = 0#32 ↔ s.fragSeq.toNat = 0 :=
  ⟨fun h => by simp [h], fun h => BitVec.eq_of_toNat_eq (by simpa using h)⟩

/-- Four bytes that are those of `v` are `v` (00_scope.md R13). -/
theorem State.le32_of_bytes {t : State} {a : Nat} {v : Word} (h0 : t.fb a = v.extractLsb' 0 8)
    (h1 : t.fb (a + 1) = v.extractLsb' 8 8) (h2 : t.fb (a + 2) = v.extractLsb' 16 8)
    (h3 : t.fb (a + 3) = v.extractLsb' 24 8) : t.le32 a = v := by
  unfold State.le32; rw [h0, h1, h2, h3]; exact word_of_bytes v

/-! ### Bytes outside `FB` -/

theorem onlyFb_trans {s t u : State} (hp : t.params = s.params) (h1 : OnlyFbWritten s t)
    (h2 : OnlyFbWritten t u) : OnlyFbWritten s u := by
  intro a ha; rw [h2 a (by rw [hp]; exact ha), h1 a ha]

theorem onlyFb_putHeader {s : State} (hl : s.params.Legal) (len : Byte) : OnlyFbWritten s (s.putHeader len) := by
  intro a ha
  unfold State.putHeader
  rw [State.read_setFb, State.putLE32_params, State.putLE32_params, State.fillFb_params,
    if_neg (by have := hl.1; omega), State.read_putLE32_outside _ _ _ a (by simpa using ha),
    State.read_putLE32_outside _ _ _ a (by simpa using ha), State.read_fillFb, if_neg (by simpa using ha)]

theorem onlyFb_putTotal (s : State) : OnlyFbWritten s s.putTotal := by
  intro a ha
  unfold State.putTotal
  split
  · exact State.read_putLE32_outside _ _ _ a ha
  · rfl

theorem onlyFb_sealFrame {s : State} (hl : s.params.Legal) : OnlyFbWritten s s.sealFrame := by
  intro a ha
  have := hl.1
  rw [State.sealFrame_mem, State.read_putLE16_outside _ _ _ _ (by omega) (by omega)]

theorem onlyFb_dataBody {s : State} (hl : s.params.Legal) (h : s.plen.toNat ≤ frameCap s s.fragSeq.toNat) :
    OnlyFbWritten s s.dataBody := by
  have hfit := frameStart_add_le hl h
  intro a ha
  unfold State.dataBody State.putPayload
  rw [State.read_fillFb]
  simp only [State.putTotal_fragSeq, State.putTotal_plen, State.putHeader_fragSeq, State.putHeader_plen,
    payloadOffset_eq]
  rw [if_neg (by omega), onlyFb_putTotal _ a (by simpa using ha), onlyFb_putHeader hl _ a ha]

/-! ### The bytes of a data frame -/

/-- Each byte of the data frame before its checksum is put in (41_format.md R120; 30_encoding.md R70, R71). -/
theorem State.fb_dataBody {s : State} (hl : s.params.Legal) (h : s.plen.toNat ≤ frameCap s s.fragSeq.toNat)
    (k : Nat) :
    s.dataBody.fb k =
      if frameStart s.fragSeq.toNat ≤ k ∧ k < frameStart s.fragSeq.toNat + s.plen.toNat then
        s.pb (k - frameStart s.fragSeq.toNat)
      else if s.fragSeq = 0#32 ∧ 11 ≤ k ∧ k < 15 then s.totSize.extractLsb' (8 * (k - 11)) 8
      else (s.putHeader s.plen).fb k := by
  have hfit := frameStart_add_le hl h
  unfold State.dataBody
  rw [State.fb_putPayload, State.fb_putTotal (by simpa using hl)]
  simp only [State.putTotal_fragSeq, State.putTotal_plen, State.putHeader_fragSeq, State.putHeader_plen,
    State.putTotal_params, State.putHeader_params, payloadOffset_eq, State.putHeader_totSize]
  have e : (frameStart s.fragSeq.toNat ≤ k ∧ k < frameStart s.fragSeq.toNat + s.plen.toNat ∧
      k < s.params.frameSize) ↔
      (frameStart s.fragSeq.toNat ≤ k ∧ k < frameStart s.fragSeq.toNat + s.plen.toNat) := by omega
  simp only [e]
  split
  · exact State.pb_of_outside hl (by simp) (onlyFb_trans (by simp) (onlyFb_putHeader hl _) (onlyFb_putTotal _)) _
  · rfl

end Sys2Proof.Machine
end

