-- ==== Sys2Proof/Laws/Invariant.lean ====
section
/-! SUPPORT. Every operation over the buffers keeps the memory in canonical form and within the two buffers
(20_memory.md R50; log 8). -/

namespace Sys2Proof.Machine

open Sys2Proof Sys2Proof.Safety

/-- The memory is in canonical form and lists only bytes of the buffers: the part of `Sound` about memory. -/
def MemOk (s : State) : Prop := Memory.wf s.mem ∧ Backed s

theorem memOk_congr {s t : State} (h : MemOk s) (hm : t.mem = s.mem) (hp : t.params = s.params) : MemOk t :=
  ⟨by rw [hm]; exact h.1, by unfold Backed; rw [hm, hp, State.capacity_congr hp]; exact h.2⟩

/-- One write keeps it, where the address written is one of the buffers'. -/
theorem memOk_of_write {s t : State} {a : Nat} {b : Byte} (h : MemOk s) (hm : t.mem = s.mem.write a b)
    (hp : t.params = s.params)
    (ha : (pbBase ≤ a ∧ a < pbBase + s.capacity) ∨ (fbBase ≤ a ∧ a < fbBase + s.params.frameSize)) : MemOk t := by
  refine ⟨by rw [hm]; exact Memory.wf_write h.1 a b, ?_⟩
  intro x hx
  rw [State.capacity_congr hp, hp]
  rw [hm] at hx
  rcases Memory.mem_write hx with hx | hx
  · rw [hx]; exact ha
  · exact h.2 x hx

theorem memOk_setFb {s : State} {i : Nat} {b : Byte} (h : MemOk s) : MemOk (s.setFb i b) := by
  unfold State.setFb
  split
  · exact memOk_of_write h rfl rfl (.inr (by omega))
  · exact h

theorem memOk_setPb {s : State} {j : Nat} {b : Byte} (h : MemOk s) : MemOk (s.setPb j b) := by
  unfold State.setPb
  split
  · exact memOk_of_write h rfl rfl (.inl (by omega))
  · exact h

theorem memOk_putLE16 {s : State} {a : Nat} {v : Half} (h : MemOk s) : MemOk (s.putLE16 a v) :=
  memOk_setFb (memOk_setFb h)

theorem memOk_putLE32 {s : State} {a : Nat} {v : Word} (h : MemOk s) : MemOk (s.putLE32 a v) :=
  memOk_setFb (memOk_setFb (memOk_setFb (memOk_setFb h)))

theorem memOk_fillFb {s : State} {a n : Nat} {f : Nat → Byte} (h : MemOk s)
    (hn : a + n ≤ s.params.frameSize ∨ n = 0) : MemOk (s.fillFb a f n) :=
  ⟨Memory.wf_writeRun h.1 _ _ _, fun x hx => by
    rcases Memory.mem_writeRun hx with h1 | h1
    · exact .inr ⟨by omega, by simp; omega⟩
    · exact h.2 x h1⟩

theorem memOk_fillPb {s : State} {f : Nat → Byte} (h : MemOk s) : MemOk (s.fillPb f) :=
  ⟨Memory.wf_writeRun h.1 _ _ _, fun x hx => by
    rcases Memory.mem_writeRun hx with h1 | h1
    · exact .inl h1
    · exact h.2 x h1⟩

theorem memOk_sealFrame {s : State} (h : MemOk s) : MemOk s.sealFrame :=
  memOk_congr (memOk_putLE16 (a := 0) (v := s.csum) h) rfl (by simp)

theorem memOk_putHeader {s : State} {len : Byte} (h : MemOk s) : MemOk (s.putHeader len) :=
  memOk_setFb (memOk_putLE32 (memOk_putLE32 (memOk_fillFb h (.inl (by omega)))))

theorem memOk_putTotal {s : State} (h : MemOk s) : MemOk s.putTotal := by
  unfold State.putTotal
  split
  · exact memOk_putLE32 h
  · exact h

/-- A payload within the capacity lies within the frame (30_encoding.md R72). -/
theorem payload_fits {s : State} (h : s.plen.toNat ≤ frameCap s s.fragSeq.toNat) :
    payloadOffset s.fragSeq + s.plen.toNat ≤ s.params.frameSize ∨ s.plen.toNat = 0 := by
  rw [payloadOffset_eq]; unfold frameCap at h; unfold frameStart; split at h <;> simp_all <;> omega

theorem memOk_dataBody {s : State} (h : MemOk s) (hf : s.plen.toNat ≤ frameCap s s.fragSeq.toNat) :
    MemOk s.dataBody :=
  memOk_fillFb (memOk_putTotal (memOk_putHeader h)) (by simp; simpa using payload_fits hf)

theorem memOk_loadPayload {s : State} (h : MemOk s) : MemOk s.loadPayload := memOk_fillPb h

theorem memOk_zeroBuffers {s : State} (h : MemOk s) : MemOk s.zeroBuffers :=
  memOk_fillPb (memOk_fillFb h (.inl (by omega)))

end Sys2Proof.Machine
end

