-- ==== Sys2Proof/Laws/PerInstr.lean ====
section
/-! SUPPORT. Facts about each command as syntax, one lemma per constructor. -/

open Sys2Proof

/-- 30_encoding.md R80 and R84: the command word has `w[31:8] = 0`, its low byte is the opcode the decoder's map
reads as this command, and there is no operand to check. -/
def Sys2Proof.Laws.UpperBitsZero.Statement (i : Instr) : Prop :=
  upperOf (encode i) = 0#24 ∧ decodeOpcode (opcodeOf (encode i)) = some i ∧ i.wf = true

theorem Sys2Proof.Laws.UpperBitsZero.nop : Sys2Proof.Laws.UpperBitsZero.Statement .nop := by
  unfold Sys2Proof.Laws.UpperBitsZero.Statement; decide
theorem Sys2Proof.Laws.UpperBitsZero.csum : Sys2Proof.Laws.UpperBitsZero.Statement .csum := by
  unfold Sys2Proof.Laws.UpperBitsZero.Statement; decide
theorem Sys2Proof.Laws.UpperBitsZero.verify : Sys2Proof.Laws.UpperBitsZero.Statement .verify := by
  unfold Sys2Proof.Laws.UpperBitsZero.Statement; decide
theorem Sys2Proof.Laws.UpperBitsZero.sealFrame : Sys2Proof.Laws.UpperBitsZero.Statement .sealFrame := by
  unfold Sys2Proof.Laws.UpperBitsZero.Statement; decide
theorem Sys2Proof.Laws.UpperBitsZero.fmtData : Sys2Proof.Laws.UpperBitsZero.Statement .fmtData := by
  unfold Sys2Proof.Laws.UpperBitsZero.Statement; decide
theorem Sys2Proof.Laws.UpperBitsZero.fmtAck : Sys2Proof.Laws.UpperBitsZero.Statement .fmtAck := by
  unfold Sys2Proof.Laws.UpperBitsZero.Statement; decide
theorem Sys2Proof.Laws.UpperBitsZero.parseData : Sys2Proof.Laws.UpperBitsZero.Statement .parseData := by
  unfold Sys2Proof.Laws.UpperBitsZero.Statement; decide
theorem Sys2Proof.Laws.UpperBitsZero.parseAck : Sys2Proof.Laws.UpperBitsZero.Statement .parseAck := by
  unfold Sys2Proof.Laws.UpperBitsZero.Statement; decide
theorem Sys2Proof.Laws.UpperBitsZero.fragCount : Sys2Proof.Laws.UpperBitsZero.Statement .fragCount := by
  unfold Sys2Proof.Laws.UpperBitsZero.Statement; decide
theorem Sys2Proof.Laws.UpperBitsZero.fragSlice : Sys2Proof.Laws.UpperBitsZero.Statement .fragSlice := by
  unfold Sys2Proof.Laws.UpperBitsZero.Statement; decide
theorem Sys2Proof.Laws.UpperBitsZero.clear : Sys2Proof.Laws.UpperBitsZero.Statement .clear := by
  unfold Sys2Proof.Laws.UpperBitsZero.Statement; decide
end

