-- ==== Sys2Proof/Tests/Slice0.lean ====
section
/-! SUPPORT. Tests of single steps against the vectors of 95_test_vectors.md and the examples of the command rules,
and for every obligation with hypotheses a concrete state that meets them (`witness_…`). -/

namespace Sys2Proof.Tests

open Sys2Proof Sys2Proof.Machine Sys2Proof.Safety

/-! ## Small states -/

/-- `F = 16` (`CAP = 5`), `MAXMSG = 64`: the instance of most vectors of 95_test_vectors.md. -/
def inst16 : Params := ⟨16, 64, .little, 0⟩

/-- The smallest instance, with the largest `MAXMSG` (95_test_vectors.md section 5). -/
def inst15 : Params := ⟨15, 4294967295, .little, 0⟩

/-- The largest instance (95_test_vectors.md section 5). -/
def inst266 : Params := ⟨266, 1048576, .little, 0⟩

/-- The instance of the counts of 95_test_vectors.md section 5. -/
def inst128 : Params := ⟨128, 1000, .little, 0⟩

/-- The reset state of `p` with the first bytes of `FB` and of `PB` as given. -/
def holding (p : Params) (fb pb : List Nat) : State :=
  { State.resetOf p with
    mem := Memory.writeRun (Memory.writeRun [] pbBase (fun j => BitVec.ofNat 8 (pb.getD j 0)) pb.length)
      fbBase (fun i => BitVec.ofNat 8 (fb.getD i 0)) fb.length }

/-- The reset state of the instance with `F = 16` and these inputs to come. -/
def host (l : List Input) : State := { State.resetOf inst16 with pending := l }

/-- The step that runs the command word `w`. -/
def run (s : State) (w : Nat) : Host.Outcome State Fault Refusal := step (s.withFetchWord 32 w)

/-- The step answers a next state with `p`. -/
def after (o : Host.Outcome State Fault Refusal) (p : State → Bool) : Bool :=
  match o with
  | .next t => p t
  | .fault _ => false
  | .refused _ => false

/-- The step refuses the instance. -/
def refuses (o : Host.Outcome State Fault Refusal) : Bool :=
  match o with
  | .refused .illegalInstance => true
  | _ => false

/-- `FB` holds these bytes, then zeros. -/
def fbIs (s : State) (bs : List Nat) : Bool :=
  (List.range s.params.frameSize).all fun i => s.fb i == BitVec.ofNat 8 (bs.getD i 0)

/-- `PB` holds these bytes, then zeros. -/
def pbIs (s : State) (bs : List Nat) : Bool :=
  (List.range s.capacity).all fun j => s.pb j == BitVec.ofNat 8 (bs.getD j 0)

/-- The registers a "pre" row of 95_test_vectors.md section 4 holds before the command. -/
def pre (s : State) : State := { s with msgSeq := 0xAA#32, fragSeq := 0xBB#32, plen := 0xCC#8, totSize := 0xDD#32 }

/-- The registers FMT_DATA reads. -/
def fields (s : State) (m k : Word) (len : Byte) (total : Word) : State :=
  { s with msgSeq := m, fragSeq := k, plen := len, totSize := total }

/-- The frame of VF1 and VC5. -/
def vf1 : List Nat := [0x02, 0x42, 1, 0, 0, 0, 0, 0, 0, 0, 1, 1, 0, 0, 0, 0x41]

/-- The frame of VF2. -/
def vf2 : List Nat := [0x13, 0x0D, 4, 3, 2, 1, 2, 0, 0, 0, 5, 1, 2, 3, 4, 5]

/-- The frame of VF7. -/
def vf7 : List Nat := [0x08, 0x04, 4, 3, 2, 1, 2]

/-- The frame of VP4, whose payload length exceeds its capacity. -/
def vp4 : List Nat := [2, 0, 0, 0, 0, 0, 0, 0, 0, 0, 2]

/-! ## What is well formed (00_scope.md R4, R6) -/

theorem test_frame_size_14_is_illegal : ¬ Params.Legal ⟨14, 64, .little, 0⟩ := by decide
theorem test_frame_size_267_is_illegal : ¬ Params.Legal ⟨267, 64, .little, 0⟩ := by decide
theorem test_max_message_2_pow_32_is_illegal : ¬ Params.Legal ⟨16, 4294967296, .little, 0⟩ := by decide
theorem test_smallest_and_largest_are_legal : inst15.Legal ∧ inst266.Legal := by decide
theorem test_illegal_instances_are_refused :
    refuses (run (State.resetOf ⟨14, 64, .little, 0⟩) 0) = true ∧
    refuses (step (State.resetOf ⟨267, 64, .little, 0⟩)) = true := by decide

/-! ## Decoding (30_encoding.md R80 to R82) -/

theorem test_decode_verify : decode 0b00000000000000000000000000000010#32 = .ok .verify := by rfl
theorem test_decode_fmtAck : decode 0b00000000000000000000000000010001#32 = .ok .fmtAck := by rfl
theorem test_decode_parseData : decode 0b00000000000000000000000000100000#32 = .ok .parseData := by rfl
theorem test_decode_fragSlice : decode 0b00000000000000000000000000110001#32 = .ok .fragSlice := by rfl
theorem test_decode_clear : decode 0b00000000000000000000000011110000#32 = .ok .clear := by rfl
theorem test_decode_other_words :
    decode 0b00000000000000000000000000000000#32 = .ok .nop ∧
    decode 0b00000000000000000000000000000001#32 = .ok .csum ∧
    decode 0b00000000000000000000000000000011#32 = .ok .sealFrame ∧
    decode 0b00000000000000000000000000010000#32 = .ok .fmtData ∧
    decode 0b00000000000000000000000000100001#32 = .ok .parseAck ∧
    decode 0b00000000000000000000000000110000#32 = .ok .fragCount := ⟨rfl, rfl, rfl, rfl, rfl, rfl⟩
/-- The illegal words of 95_test_vectors.md section 6. -/
theorem test_decode_illegal_words :
    decode 0x00000004#32 = .error (.unassignedOpcode 4#8) ∧ decode 0x00000012#32 = .error (.unassignedOpcode 0x12#8) ∧
    decode 0x00000100#32 = .error .upperBitsNotZero ∧ decode 0xFFFFFFFF#32 = .error .upperBitsNotZero :=
  ⟨rfl, rfl, rfl, rfl⟩
theorem test_decodeTableWord : decodeTableWord 32 0xF0 = some .clear ∧ decodeTableWord 8 0xF0 = some .clear ∧
    decodeTableWord 32 0x100 = none ∧ decodeTableWord 40 0x100000000 = none := by decide

/-! ## Commands (95_test_vectors.md sections 2 to 6) -/

/-- The example of R180: `STATUS = 0x33` becomes `0x03`. -/
theorem test_nop_clears_err_only :
    after (run { State.resetOf inst16 with status := 0x33#8 } 0) (fun t => t.status == 0x03#8) = true := by decide
/-- VC2. -/
theorem test_csum_of_all_ones :
    after (run (holding inst16 ([0, 0] ++ List.replicate 14 0xFF) []) 1) (fun t => t.csumResult == 0xFFF9#16) = true := by
  decide
/-- VC4: the last byte of an odd region is zero-extended. -/
theorem test_csum_of_an_odd_region :
    after (run (holding ⟨17, 64, .little, 0⟩ ([0, 0] ++ List.replicate 15 0xFF) []) 1)
      (fun t => t.csumResult == 0x00F8#16) = true := by decide
/-- VC6. -/
theorem test_verify_finds_a_bit_flip :
    after (run (holding inst16 (vf1.set 11 0x81) []) 2)
      (fun t => t.csumResult == 0xC202#16 && t.status == 0x20#8) = true := by decide
/-- VC8: exchanging whole words is not detected. -/
theorem test_verify_misses_a_word_exchange :
    after (run (holding inst16 [2, 0x42, 1, 1, 0, 0, 0, 0, 0, 0, 1, 0, 0, 0, 0, 0x41] []) 2)
      (fun t => t.csumResult == 0x4202#16 && t.status == 0x01#8) = true := by decide
/-- VC3. -/
theorem test_seal_all_ones :
    after (run (holding inst16 ([0, 0] ++ List.replicate 14 0xFF) []) 3)
      (fun t => t.csumResult == 0xFFF9#16 && fbIs t ([0xF9, 0xFF] ++ List.replicate 14 0xFF)) = true := by
  decide
/-- The example of R105. -/
theorem test_seal_example :
    after (run (holding inst16 [0, 0, 1] []) 3)
      (fun t => t.csumResult == 0x0001#16 && fbIs t [1, 0, 1] && t.status == 0#8) = true := by decide
/-- VF1 (the total-size field, payload at offset 15) and VF11 (odd `F`, payload at offset 11). -/
theorem test_fmtData_frames :
    after (run (fields (holding inst16 [] [0x41]) 1#32 0#32 1#8 1#32) 0x10)
      (fun t => t.csumResult == 0x4202#16 && t.status == 0#8 && fbIs t vf1) = true ∧
    after (run (fields (holding ⟨17, 64, .little, 0⟩ vf1 (List.replicate 6 0xFF)) 0#32 1#32 6#8 5#32) 0x10)
      (fun t => t.csumResult == 4#16 &&
        fbIs t [4, 0, 0, 0, 0, 0, 1, 0, 0, 0, 6, 0xFF, 0xFF, 0xFF, 0xFF, 0xFF, 0xFF]) = true := by decide
/-- VF3: nothing but `ERR` changes. -/
theorem test_fmtData_plen_range :
    after (run (fields (holding inst16 [7] [1, 2]) 1#32 0#32 2#8 2#32) 0x10)
      (fun t => t.status == 0x40#8 && t.csumResult == 0#16 && fbIs t [7]) = true := by decide
/-- VF8. -/
theorem test_fmtAck_all_ones :
    after (run { State.resetOf inst16 with msgSeq := 0xFFFFFFFF#32, fragSeq := 0xFFFFFFFF#32, plen := 5#8 } 0x11)
      (fun t => t.csumResult == 0xFFFC#16 && t.plen == 5#8 &&
        fbIs t [0xFC, 0xFF, 0xFF, 0xFF, 0xFF, 0xFF, 0xFF, 0xFF, 0xFF, 0xFF]) = true := by decide
/-- VF7, over a frame that held other bytes. -/
theorem test_fmtAck_overwrites_the_frame :
    after (run { holding inst16 vf2 [9] with msgSeq := 0x01020304#32, fragSeq := 2#32 } 0x11)
      (fun t => t.csumResult == 0x0408#16 && fbIs t vf7 && pbIs t [9]) = true := by decide
/-- VP1. -/
theorem test_parseData_accepts :
    after (run (pre (holding inst16 vf1 [9, 9, 9])) 0x20)
      (fun t => t.status == 0x03#8 && t.csumResult == 0x4202#16 && t.msgSeq == 1#32 && t.fragSeq == 0#32 &&
        t.plen == 1#8 && t.totSize == 1#32 && pbIs t [0x41]) = true := by decide
/-- VP4: the header registers are written, `PB` is not. -/
theorem test_parseData_malformed :
    after (run (pre (holding inst16 vp4 [9, 9])) 0x20)
      (fun t => t.status == 0x33#8 && t.csumResult == 2#16 && t.fragSeq == 0#32 && t.plen == 2#8 &&
        t.totSize == 0#32 && pbIs t [9, 9]) = true := by decide
/-- VP7: a data frame with payload fails PARSE_ACK. -/
theorem test_parseAck_of_a_data_frame :
    after (run (pre (holding inst16 vf2 [])) 0x21)
      (fun t => t.status == 0x31#8 && t.csumResult == 0x0D13#16 && t.msgSeq == 0x01020304#32 && t.fragSeq == 2#32 &&
        t.plen == 5#8 && t.totSize == 0xDD#32) = true := by decide
/-- VP11: padding is not checked. -/
theorem test_parseAck_ignores_padding :
    after (run (holding inst16 [9, 4, 4, 3, 2, 1, 2, 0, 0, 0, 0, 0, 1] []) 0x21)
      (fun t => t.status == 0x01#8 && t.csumResult == 0x0409#16 && t.fragSeq == 2#32 && t.plen == 0#8) = true := by
  decide
/-- 95_test_vectors.md section 5, `MSGLEN = 1000 = MAXMSG`. -/
theorem test_fragCount_at_the_limit :
    after (run { State.resetOf inst128 with msgLen := 1000#32 } 0x30)
      (fun t => t.fragCnt == 9#32 && t.status == 0#8) = true := by decide
/-- 95_test_vectors.md section 5, `MSGLEN = 1001`. -/
theorem test_fragCount_oversize :
    after (run { State.resetOf inst128 with msgLen := 1001#32, fragCnt := 3#32 } 0x30)
      (fun t => t.fragCnt == 3#32 && t.status == 0x50#8) = true := by decide
/-- 95_test_vectors.md section 5: the count is not wrapped at 32 bits. -/
theorem test_fragSlice_at_the_top :
    after (run { State.resetOf inst15 with msgLen := 0xFFFFFFFF#32, fragIdx := 0x40000000#32 } 0x31)
      (fun t => t.fragCnt == 0x40000001#32 && t.sliceOff == 0xFFFFFFFC#32 && t.sliceLen == 3#8 && t.status == 0#8) =
      true := by decide
/-- The example of R163: `FRAGIDX = 3` of a 300-byte message. -/
theorem test_fragSlice_out_of_range :
    after (run { State.resetOf inst128 with msgLen := 300#32, fragIdx := 3#32, sliceOff := 5#32, sliceLen := 6#8 } 0x31)
      (fun t => t.fragCnt == 3#32 && t.sliceOff == 5#32 && t.sliceLen == 6#8 && t.status == 0x60#8) = true := by decide
/-- 95_test_vectors.md section 6, row 6. -/
theorem test_clear :
    after (run (pre { holding inst16 vf1 [9] with status := 0x01#8, csumResult := 0x4202#16, fragCnt := 3#32 }) 0xF0)
      (fun t => t == State.resetOf inst16) = true := by decide
/-- 95_test_vectors.md section 6, rows 1 to 4. -/
theorem test_illegal_words_keep_the_rest :
    ([0x4, 0x100, 0xFFFFFFFF, 0x12].all fun w =>
      after (run { State.resetOf inst16 with status := 0x01#8, csumResult := 0x4202#16 } w)
        (fun t => t.status == 0x11#8 && t.csumResult == 0x4202#16)) = true := by decide

/-! ## Host accesses (95_test_vectors.md section 6, host-interface vectors; section 7) -/

theorem test_reads :
    after (step (host [.access (.read32 0x008)])) (fun t => t.reply == .word 16#32) = true ∧
    after (step (host [.access (.read32 0x00C)])) (fun t => t.reply == .word 5#32) = true ∧
    after (step (host [.access (.read32 0x0FC)])) (fun t => t.reply == .word 0#32) = true ∧
    after (step (host [.access (.read32 0x200)])) (fun t => t.reply == .word 0#32) = true := by decide
theorem test_plen_keeps_8_bits :
    after (step (host [.access (.write32 0x020 0x1FF#32)])) (fun t => t.plen == 0xFF#8) = true := by decide
theorem test_ignored_writes :
    ([Access.write32 0x030 7#32, .write32 0x004 0xFF#32, .write8 0x000 1#8, .write32 0x002 1#32, .write8 0x210 0xAB#8,
      .write8 0x105 0xAB#8].all fun a => after (step (host [.access a])) (fun t => t == State.resetOf inst16)) =
      true := by decide
theorem test_last_payload_byte :
    after (step (host [.access (.write8 0x104 0xAB#8)])) (fun t => t.pb 4 == 0xAB#8 && t.mem == [(0x104, 0xAB#8)]) =
      true := by decide
theorem test_program_lines :
    (Line.cmd .clear).access = .write32 0x000 0xF0#32 ∧ (Line.rd .sliceLen).access = .read32 0x038 ∧
    (Line.wr .msgLen 7#32).access = .write32 0x028 7#32 ∧ (Line.wbPb 4 1#8).access = .write8 0x104 1#8 ∧
    (Line.rbFb 15).access = .read8 0x20F := by decide
/-- P1 of 95_test_vectors.md section 8: the accesses of `SEND_FRAGMENT 3, 0, msg`, lines 1 to 11 and the reads of
line 13 (line 12, `rd STATUS`, is the program's own). -/
theorem test_sendFragment_is_the_program_P1 :
    (sendFragment inst16 3#32 0#32 [0x48#8, 0x45#8, 0x4C#8, 0x4C#8, 0x4F#8, 0x21#8, 0x0A#8] 0 1).map Line.access =
      [.write32 0x028 7#32, .write32 0x02C 0#32, .write32 0x000 0x31#32, .read32 0x034, .read32 0x038,
        .write8 0x100 0x48#8, .write32 0x018 3#32, .write32 0x01C 0#32, .write32 0x020 1#32, .write32 0x024 7#32,
        .write32 0x000 0x10#32] ++ (List.range 16).map (fun i => .read8 (0x200 + i)) := by decide
theorem test_withFetchWord_posts_one_word :
    (State.reset.withFetchWord 32 0x10).pending = [.access (.write32 0x000 0x10#32)] ∧
    State.reset.withFetchWord 40 0x100000000 = State.reset := by decide

/-! ## Witnesses: for each obligation with hypotheses, a state that meets them all -/

/-- The state `host l` is sound. -/
theorem host_sound (l : List Input) : Sound (host l) where
  legal := (by decide : inst16.Legal)
  canonical := Memory.wf_nil
  backed := by intro c hc; simp [host, State.resetOf] at hc
  reservedZero := (by decide : (State.resetOf inst16).statusReserved = 0#2)
  errRange := (by decide : (State.resetOf inst16).err.toNat ≤ 6)
  fragCntRange := Nat.zero_le _
  sliceLenRange := Nat.zero_le _
  sliceOffRange := .inl rfl

/-- A state that holds a frame is sound. -/
theorem vf1_sound : Sound (holding inst16 vf1 [9]) where
  legal := by decide
  canonical := by decide
  backed := by unfold Backed; decide
  reservedZero := rfl
  errRange := by decide
  fragCntRange := Nat.zero_le _
  sliceLenRange := Nat.zero_le _
  sliceOffRange := .inl rfl

theorem vf1_valid : ChecksumValid (holding inst16 vf1 []) := (State.frameValid_iff _).1 (by decide)

theorem witness_StepRunsTheDecodedCommand : ∃ (s : State) (w : Word) (i : Instr) (rest : List Input),
    s.params.Legal ∧ s.pending = .access (.write32 0x000 w) :: rest ∧ decode w = .ok i :=
  ⟨host [.access (.write32 0x000 0xF0#32)], 0xF0#32, .clear, [], by decide, rfl, rfl⟩

theorem witness_PostedWordRunsAsTheNextStep : State.reset.params.Legal := by decide

theorem witness_IllegalWordChangesOnlyErr : (∃ (s : State) (w : Word) (rest : List Input), s.params.Legal ∧
      s.pending = .access (.write32 0x000 w) :: rest ∧ w.toNat / 256 ≠ 0) ∧
    (∃ (s : State) (w : Word) (rest : List Input), s.params.Legal ∧
      s.pending = .access (.write32 0x000 w) :: rest ∧
      w.toNat % 256 ∉ [0x00, 0x01, 0x02, 0x03, 0x10, 0x11, 0x20, 0x21, 0x30, 0x31, 0xF0]) :=
  ⟨⟨host [.access (.write32 0x000 0x100#32)], _, _, by decide, rfl, by decide⟩,
    ⟨host [.access (.write32 0x000 0x04#32)], _, _, by decide, rfl, by decide⟩⟩

theorem witness_EveryInputOfALegalInstanceCompletes : (host [.reset, .access (.read32 0)]).params.Legal := by decide

theorem witness_StepWithoutInputChangesNothing : (host []).params.Legal ∧ (host []).pending = [] := by decide

/-- Both sides of R4's and R6's bounds. -/
theorem witness_ExactlyIllegalInstancesAreRefused :
    refuses (step (State.resetOf ⟨14, 0, .little, 0⟩)) = true ∧
    refuses (step (State.resetOf ⟨266, 4294967296, .little, 0⟩)) = true ∧
    refuses (step (State.resetOf inst15)) = false ∧ refuses (step (State.resetOf inst266)) = false := by decide

theorem witness_ResetStateHoldsTheResetValues : inst15.Legal ∧ inst266.Legal := by decide

theorem witness_AssertedResetGivesTheResetState :
    (host [.reset, .access (.read8 0x200)]).params.Legal ∧
    (host [.reset, .access (.read8 0x200)]).pending = .reset :: [.access (.read8 0x200)] := by decide

theorem witness_ResetStateIsSound : inst266.Legal := by decide

theorem witness_EveryStepKeepsSound : ∃ s t : State, Sound s ∧ step s = .next t :=
  ⟨host [.access (.write32 0x000 0x20#32)], _, host_sound _, rfl⟩

/-- The first and the last register. -/
theorem witness_Read32ReturnsTheRegister :
    ∀ a ∈ [0x000, 0x038], (host [.access (.read32 a)]).params.Legal ∧
      (a, 0#32) ∈ [(0x000, 0#32), (0x038, (host [.access (.read32 a)]).sliceLen.setWidth 32)] := by decide

theorem witness_ReadStatusShowsItsFields : Sound (host [.access (.read32 0x004)]) ∧
    (host [.access (.read32 0x004)]).pending = .access (.read32 0x004) :: [] := ⟨host_sound _, rfl⟩

theorem witness_Write32StoresIntoTheWritableRegisters :
    ∃ s t : State, s.params.Legal ∧ (0x020, t) ∈ [(0x020, { s with plen := BitVec.ofNat 8 (0x1FF % 256) })] ∧
      s.pending = .access (.write32 0x020 0x1FF#32) :: [] :=
  ⟨host [.access (.write32 0x020 0x1FF#32)], _, by decide, List.mem_singleton_self _, rfl⟩

theorem witness_Write32ToAReadOnlyRegisterIsIgnored :
    ∀ a ∈ [0x004, 0x038], a ∈ [0x004, 0x008, 0x00C, 0x010, 0x014, 0x030, 0x034, 0x038] ∧
      (host [.access (.write32 a 7#32)]).params.Legal := by decide

/-- A misaligned offset, the first reserved one and the last word of the window. -/
theorem witness_WordAccessOutsideTheRegistersReadsZeroWritesNothing :
    ∀ a ∈ [0x002, 0x03C, 0x3FC], a < 0x400 ∧ ¬ (a % 4 = 0 ∧ a ≤ 0x038) ∧
      (host [.access (.read32 a)]).params.Legal ∧ (host [.access (.write32 a 1#32)]).params.Legal := by decide

theorem witness_ByteAccessToTheRegisterRegionDoesNothing :
    ∀ a ∈ [0x000, 0x0FF], a < 0x100 ∧ (host [.access (.read8 a)]).params.Legal ∧
      (host [.access (.write8 a 1#8)]).params.Legal := by decide

/-- The two ends of each window. -/
theorem witness_Read8ReturnsTheBufferByte :
    ∀ a ∈ [0x100, 0x1FF, 0x200, 0x3FF], 0x100 ≤ a ∧ a < 0x400 ∧ (host [.access (.read8 a)]).params.Legal := by decide

/-- The last backed and the first unbacked byte of each window. -/
theorem witness_Write8ChangesExactlyOneBackedByte :
    (∀ a ∈ [0x104, 0x20F], 0x100 ≤ a ∧ a < 0x400 ∧ (host [.access (.write8 a 1#8)]).params.Legal ∧
      ((a < 0x200 ∧ a - 0x100 < inst16.frameSize - 11) ∨ (0x200 ≤ a ∧ a - 0x200 < inst16.frameSize))) ∧
    (∀ a ∈ [0x105, 0x210], 0x100 ≤ a ∧ a < 0x400 ∧
      ¬ ((a < 0x200 ∧ a - 0x100 < inst16.frameSize - 11) ∨ (0x200 ≤ a ∧ a - 0x200 < inst16.frameSize))) := by decide

theorem witness_ReadsAreFreeOfSideEffects :
    ∃ (s : State) (rest : List Input) (a : Access), s.params.Legal ∧ (∃ addr, a = .read32 addr ∨ a = .read8 addr) ∧
      s.pending = .access a :: .access a :: rest :=
  ⟨host [.access (.read32 0x004), .access (.read32 0x004)], [], .read32 0x004, by decide, ⟨0x004, .inl rfl⟩, rfl⟩

theorem witness_ByteReadAfterWriteReturnsTheWrittenByte :
    ∀ a ∈ [0x100, 0x104, 0x200, 0x20F], (host [.access (.write8 a 5#8), .access (.read8 a)]).params.Legal ∧
      ((0x100 ≤ a ∧ a < 0x100 + inst16.frameSize - 11) ∨ (0x200 ≤ a ∧ a < 0x200 + inst16.frameSize)) := by decide

theorem witness_AccessAboveTheWindowDoesNothing :
    (host [.access (.write32 0x400 2#32)]).params.Legal ∧ (0x400 : Nat) ≤ 0x400 ∧
    Access.write32 0x400 2#32 ∈
      [Access.read32 0x400, .write32 0x400 2#32, .read8 0x400, .write8 0x400 2#8] := by decide

theorem witness_ParsedMsgSeqReadsAsItsFrameBytes :
    ∃ t, exec .parseData (holding inst16 vf1 []) = .next t ∧ t.err = 0#4 :=
  ⟨_, exec_parseData_accepts vf1_valid (by decide), by simp; rfl⟩

theorem witness_VerifyComparesSumAndStoredChecksum :
    (coveredSum (holding inst16 vf1 []) % 65536 = LE16At (holding inst16 vf1 []) 0) ∧
    (coveredSum (holding inst16 (vf1.set 0 3) []) % 65536 ≠ LE16At (holding inst16 (vf1.set 0 3) []) 0) :=
  ⟨vf1_valid, (State.frameValid_false_iff _).1 (by decide)⟩

theorem witness_SealStoresTheChecksum : inst15.Legal ∧ inst266.Legal := by decide

theorem witness_SealIsIdempotentAndMakesTheFrameValid :
    (∃ s t : State, t.params = s.params ∧ ∀ i, 2 ≤ i → t.fb i = s.fb i) ∧
    (∃ s t : State, Sound s ∧ exec .sealFrame s = .next t) :=
  ⟨⟨host [], (host []).setFb 1 7#8, by simp, fun i hi => by rw [State.fb_setFb, if_neg (by omega)]⟩,
    ⟨_, _, vf1_sound, exec_seal _⟩⟩

/-- The first word, the last word and the stored checksum. -/
theorem witness_OneWordChangesShiftTheChecksumAndAreDetected :
    (∃ (s t : State) (k : Nat), k = 6 ∧ t.params = s.params ∧ 2 + 2 * k < s.params.frameSize ∧
      ∀ i, i ≠ 2 + 2 * k → i ≠ 3 + 2 * k → t.fb i = s.fb i) ∧
    (∀ m ∈ [0, 7], ∃ s t : State, t.params = s.params ∧ ChecksumValid s ∧
      (∀ i, i ≠ 2 * m → i ≠ 2 * m + 1 → t.fb i = s.fb i) ∧ ∃ i, t.fb i ≠ s.fb i) := by
  refine ⟨⟨host [], (host []).setFb 14 1#8, 6, rfl, by simp, by decide, fun i hi _ => ?_⟩, ?_⟩
  · rw [State.fb_setFb, if_neg (by omega)]
  · intro m hm
    have h : ∀ n : Nat, n < 16 → (holding inst16 vf1 []).fb n ≠ 0xEE#8 := by decide
    have hm' : 2 * m < 16 := by simp at hm; omega
    refine ⟨holding inst16 vf1 [], (holding inst16 vf1 []).setFb (2 * m) 0xEE#8, by simp, vf1_valid, ?_, 2 * m, ?_⟩
    · intro i hi _; rw [State.fb_setFb, if_neg (by omega)]
    · rw [State.fb_setFb, if_pos ⟨rfl, hm'⟩]; exact fun e => h _ hm' e.symm

/-- A flip in the stored checksum and one in the last byte; the bytes of the last word, which differ. -/
theorem witness_BitFlipsAndByteExchangesAreDetected :
    (∀ i ∈ [0, 2, 15], i < (holding inst16 vf1 []).params.frameSize) ∧ ChecksumValid (holding inst16 vf1 []) ∧
    3 + 2 * 6 < (holding inst16 vf1 []).params.frameSize ∧
    (holding inst16 vf1 []).fb (3 + 2 * 6) ≠ (holding inst16 vf1 []).fb (2 + 2 * 6) :=
  ⟨by decide, vf1_valid, by decide, by decide⟩

/-- VC7 and VC8. -/
theorem witness_CompensatingChangesAreNotDetected :
    (∃ s t : State, t.params = s.params ∧ ChecksumValid s ∧ t.fb 11 ≠ s.fb 11 ∧
      (coveredSum t + LE16At s 0) % 65536 = (coveredSum s + LE16At t 0) % 65536) ∧
    (∃ (s t : State) (k l : Nat), t.params = s.params ∧ ChecksumValid s ∧ k ≠ l ∧
      3 + 2 * k < s.params.frameSize ∧ 3 + 2 * l < s.params.frameSize ∧
      t.fb (2 + 2 * k) = s.fb (2 + 2 * l) ∧ t.fb (3 + 2 * k) = s.fb (3 + 2 * l) ∧
      t.fb (2 + 2 * l) = s.fb (2 + 2 * k) ∧ t.fb (3 + 2 * l) = s.fb (3 + 2 * k) ∧
      (∀ i, i ≠ 2 + 2 * k → i ≠ 3 + 2 * k → i ≠ 2 + 2 * l → i ≠ 3 + 2 * l → t.fb i = s.fb i)) := by
  refine ⟨⟨holding inst16 vf1 [], holding inst16 ((vf1.set 11 0x81).set 13 0x80) [], rfl, vf1_valid,
    by decide, ?_⟩, ?_⟩
  · have h1 : (holding inst16 vf1 []).csum = (holding inst16 ((vf1.set 11 0x81).set 13 0x80) []).csum := by
      decide
    have h2 := congrArg BitVec.toNat h1
    rw [State.csum_toNat, State.csum_toNat] at h2
    have h3 : LE16At (holding inst16 vf1 []) 0 = LE16At (holding inst16 ((vf1.set 11 0x81).set 13 0x80) []) 0 := by
      decide
    rw [h3]; omega
  · refine ⟨holding inst16 vf1 [], holding inst16 [2, 0x42, 1, 1, 0, 0, 0, 0, 0, 0, 1, 0, 0, 0, 0, 0x41] [], 0, 4, rfl,
      vf1_valid, by decide, by decide, by decide, by decide, by decide +kernel, by decide +kernel,
      by decide, fun i h0 h1 h2 h3 => ?_⟩
    have h : ∀ n : Nat, n < 16 → n ≠ 2 → n ≠ 3 → n ≠ 10 → n ≠ 11 →
        (holding inst16 [2, 0x42, 1, 1, 0, 0, 0, 0, 0, 0, 1, 0, 0, 0, 0, 0x41] []).fb n =
          (holding inst16 vf1 []).fb n := by decide
    by_cases hi : i < 16
    · exact h i hi (by omega) (by omega) (by omega) (by omega)
    · rw [State.fb_of_le _ (by exact Nat.le_of_not_lt hi), State.fb_of_le _ (by exact Nat.le_of_not_lt hi)]

theorem witness_AllZeroFrameIsAccepted : (host []).params.Legal ∧ ∀ i, (host []).fb i = 0#8 :=
  ⟨by decide, fun i => by unfold State.fb; split <;> rfl⟩

/-- Payload lengths at the capacity and one above it, for fragment 0 and another. -/
theorem witness_FmtDataBuildsTheDataFrame : inst16.Legal ∧
    (fields (host []) 1#32 0#32 1#8 1#32).plen.toNat = frameCap (fields (host []) 1#32 0#32 1#8 1#32) 0 ∧
    frameCap (fields (host []) 1#32 0#32 2#8 1#32) 0 < (fields (host []) 1#32 0#32 2#8 1#32).plen.toNat ∧
    (fields (host []) 1#32 3#32 5#8 1#32).plen.toNat = frameCap (fields (host []) 1#32 3#32 5#8 1#32) 3 ∧
    frameCap (fields (host []) 1#32 3#32 6#8 1#32) 3 < (fields (host []) 1#32 3#32 6#8 1#32).plen.toNat := by
  decide

theorem witness_FmtAckBuildsTheAckFrame : inst15.Legal ∧ inst266.Legal := by decide

theorem witness_FormattedFramesVerifyAndParse :
    (∃ s t : State, s.params.Legal ∧ exec .fmtData s = .next t ∧ t.err = 0#4) ∧
    (∃ s t : State, s.params.Legal ∧ exec .fmtAck s = .next t) :=
  ⟨⟨fields (host []) 1#32 0#32 1#8 1#32, _, by decide, exec_fmtData_fits (by decide), by simp; rfl⟩,
    ⟨host [], _, by decide, exec_fmtAck _⟩⟩

theorem witness_AckOfFragmentZeroEqualsTheEmptyMessageFrame :
    ∃ s r t u : State, s.params.Legal ∧ r.params = s.params ∧ r.msgSeq = s.msgSeq ∧ s.fragSeq = 0#32 ∧
      r.fragSeq = 0#32 ∧ r.plen = 0#8 ∧ r.totSize = 0#32 ∧ exec .fmtAck s = .next t ∧ exec .fmtData r = .next u :=
  ⟨fields (host []) 5#32 0#32 3#8 9#32, fields (host []) 5#32 0#32 0#8 0#32, _, _, by decide, rfl, rfl, rfl, rfl, rfl,
    rfl, exec_fmtAck _, exec_fmtData_fits (by decide)⟩

/-- A full fragment 0, a full other fragment and an empty one. -/
theorem witness_FormatterChecksumClosedForms :
    (∃ s t : State, s.params.Legal ∧ exec .fmtAck s = .next t) ∧
    (∃ s t : State, s.params.Legal ∧ s.fragSeq = 0#32 ∧ s.plen = 1#8 ∧ exec .fmtData s = .next t ∧ t.err = 0#4) ∧
    (∃ s t : State, s.params.Legal ∧ s.fragSeq = 3#32 ∧ s.plen = 5#8 ∧ exec .fmtData s = .next t ∧ t.err = 0#4) ∧
    (∃ s t : State, s.params.Legal ∧ s.fragSeq = 3#32 ∧ s.plen = 0#8 ∧ exec .fmtData s = .next t ∧ t.err = 0#4) :=
  ⟨⟨host [], _, by decide, exec_fmtAck _⟩,
    ⟨fields (host []) 1#32 0#32 1#8 1#32, _, by decide, rfl, rfl, exec_fmtData_fits (by decide), by simp; rfl⟩,
    ⟨fields (host []) 1#32 3#32 5#8 1#32, _, by decide, rfl, rfl, exec_fmtData_fits (by decide), by simp; rfl⟩,
    ⟨fields (host []) 1#32 3#32 0#8 1#32, _, by decide, rfl, rfl, exec_fmtData_fits (by decide), by simp; rfl⟩⟩

/-- Two states that differ in what FMT_DATA does not read. -/
theorem witness_FmtDataIgnoresStalePayloadAndUnusedTotal :
    ∃ s r t u : State, s.params.Legal ∧ r.params = s.params ∧ r.msgSeq = s.msgSeq ∧ r.fragSeq = s.fragSeq ∧
      r.plen = s.plen ∧ r.totSize ≠ s.totSize ∧ (s.fragSeq = 0#32 → r.totSize = s.totSize) ∧
      r.pb 1 ≠ s.pb 1 ∧ (∀ j, j < s.plen.toNat → r.pb j = s.pb j) ∧
      exec .fmtData s = .next t ∧ exec .fmtData r = .next u :=
  ⟨fields (holding inst16 [] [1, 2]) 1#32 2#32 1#8 7#32, fields (holding inst16 [] [1, 3]) 1#32 2#32 1#8 8#32, _, _,
    by decide, rfl, rfl, rfl, rfl, by decide, fun h => absurd h (by decide), by decide,
    by decide, exec_fmtData_fits (by decide), exec_fmtData_fits (by decide)⟩

/-- An invalid frame, a malformed one (VP4) and an accepted one. -/
theorem witness_ParseDataChecksAndUnpacks : inst16.Legal ∧
    ¬ ChecksumValid (holding inst16 (vf1.set 15 0x40) []) ∧
    (ChecksumValid (holding inst16 vp4 []) ∧
      frameCap (holding inst16 vp4 []) (LE32At (holding inst16 vp4 []) 6) + 1 = ((holding inst16 vp4 []).fb 10).toNat) ∧
    (ChecksumValid (holding inst16 vf1 []) ∧
      ((holding inst16 vf1 []).fb 10).toNat = frameCap (holding inst16 vf1 []) (LE32At (holding inst16 vf1 []) 6)) :=
  ⟨by decide, (State.frameValid_false_iff _).1 (by decide),
    ⟨(State.frameValid_iff _).1 (by decide), by decide +kernel⟩, vf1_valid, by decide +kernel⟩

theorem witness_ParseAckChecksAndUnpacks :
    ¬ ChecksumValid (holding inst16 (vf7.set 3 0x05) []) ∧
    (ChecksumValid (holding inst16 vf7 []) ∧ (holding inst16 vf7 []).fb 10 = 0#8) ∧
    (ChecksumValid (holding inst16 vf2 []) ∧ (holding inst16 vf2 []).fb 10 ≠ 0#8) :=
  ⟨(State.frameValid_false_iff _).1 (by decide),
    ⟨(State.frameValid_iff _).1 (by decide), by decide +kernel⟩,
    (State.frameValid_iff _).1 (by decide), by decide +kernel⟩

theorem witness_FormatAndParseRoundTrip :
    (∃ s t : State, s.params.Legal ∧ s.plen.toNat = frameCap s s.fragSeq.toNat ∧ exec .fmtData s = .next t) ∧
    (∃ s t : State, s.params.Legal ∧ exec .fmtAck s = .next t) ∧
    (∃ s t : State, s.params.Legal ∧ exec .parseData s = .next t ∧ t.err = 0#4) :=
  ⟨⟨fields (host []) 1#32 0#32 1#8 1#32, _, by decide, by decide, exec_fmtData_fits (by decide)⟩,
    ⟨host [], _, by decide, exec_fmtAck _⟩,
    ⟨holding inst16 vf1 [], _, by decide, exec_parseData_accepts vf1_valid (by decide), by simp; rfl⟩⟩

theorem witness_BadChecksumDeliversNothing :
    (∃ s t : State, exec .parseData s = .next t ∧ t.err = 2#4) ∧
    (∃ s t : State, exec .parseAck s = .next t ∧ t.err = 2#4) := by
  have hv : ¬ ChecksumValid (holding inst16 (vf1.set 15 0x40) []) :=
    (State.frameValid_false_iff _).1 (by decide)
  refine ⟨⟨holding inst16 (vf1.set 15 0x40) [], ?_⟩, ⟨holding inst16 (vf1.set 15 0x40) [], ?_⟩⟩
  · rcases exec_parseData (holding inst16 (vf1.set 15 0x40) []) with ⟨_, h⟩ | ⟨h, _⟩ | ⟨h, _⟩
    · exact ⟨_, h, by rw [State.err_setErr]; rfl⟩
    · exact absurd h hv
    · exact absurd h hv
  · rcases exec_parseAck (holding inst16 (vf1.set 15 0x40) []) with ⟨_, h⟩ | ⟨h, _⟩ | ⟨h, _⟩
    · exact ⟨_, h, by rw [State.err_setErr]; rfl⟩
    · exact absurd h hv
    · exact absurd h hv

theorem witness_ParsingADuplicateChangesNothing :
    (∃ s t : State, Sound s ∧ exec .parseData s = .next t) ∧ (∃ s t : State, Sound s ∧ exec .parseAck s = .next t) := by
  refine ⟨⟨holding inst16 vf1 [9], ?_⟩, ⟨holding inst16 vf1 [9], ?_⟩⟩
  · rcases exec_parseData (holding inst16 vf1 [9]) with ⟨_, h⟩ | ⟨_, _, h⟩ | ⟨_, _, h⟩ <;> exact ⟨_, vf1_sound, h⟩
  · rcases exec_parseAck (holding inst16 vf1 [9]) with ⟨_, h⟩ | ⟨_, _, h⟩ | ⟨_, _, h⟩ <;> exact ⟨_, vf1_sound, h⟩

/-- An accepted frame and a malformed one: both leave `CK_OK = 1`. -/
theorem witness_AckReplyAcknowledgesTheParsedFrame :
    (∃ s t : State, s.params.Legal ∧ exec .parseData s = .next t ∧ t.ckOk = true ∧ t.err = 0#4) ∧
    (∃ s t : State, s.params.Legal ∧ exec .parseData s = .next t ∧ t.ckOk = true ∧ t.err = 3#4) := by
  refine ⟨⟨holding inst16 vf1 [], _, by decide, exec_parseData_accepts vf1_valid (by decide), by simp,
    by simp; rfl⟩, holding inst16 vp4 [], ?_⟩
  have hv : ChecksumValid (holding inst16 vp4 []) := (State.frameValid_iff _).1 (by decide)
  have hc : frameCap (holding inst16 vp4 []) (LE32At (holding inst16 vp4 []) 6) <
      ((holding inst16 vp4 []).fb 10).toNat := by decide
  rcases exec_parseData (holding inst16 vp4 []) with ⟨h, _⟩ | ⟨_, _, h⟩ | ⟨_, h, _⟩
  · exact absurd hv h
  · exact ⟨_, by decide, h, by simp, by simp; rfl⟩
  · omega

theorem witness_CheckReadsTheValidityOfTheFrame :
    ∃ (s : State) (rest : List Input), s.params.Legal ∧
      s.pending = .access (Line.cmd .verify).access :: .access (Line.rd .status).access :: rest :=
  ⟨(host []).postLines checkSequence, [], by decide, rfl⟩

/-- `MSGLEN` at `MAXMSG` and one above it. -/
theorem witness_FragCountWritesTheCount :
    inst128.Legal ∧ (1000#32).toNat ≤ inst128.maxMsg ∧ inst128.maxMsg < (1001#32).toNat := by decide

/-- Each outcome at its boundary, in the smallest instance: `FRAGIDX` the last fragment, and one above it. -/
theorem witness_FragSliceLocatesTheFragment :
    inst128.Legal ∧ inst128.maxMsg < 1001 ∧ inst15.Legal ∧ 4294967295 ≤ inst15.maxMsg ∧ inst15.frameSize - 11 = 4 ∧
    (4294967295 + 4 + 4 - 1) / 4 ≤ (0x40000001#32).toNat ∧ (0x40000000#32).toNat < (4294967295 + 4 + 4 - 1) / 4 :=
  ⟨by decide, by decide, by decide, by decide, by decide, by decide, by decide⟩

theorem witness_SlicesTileTheMessage :
    inst15.Legal ∧ (0#32).toNat ≤ inst15.maxMsg ∧ (4294967295#32).toNat = inst15.maxMsg := by decide

theorem witness_EmptyMessageIsOneEmptyFragment :
    (host []).params.Legal ∧ (host []).msgLen = 0#32 ∧ (host []).fragIdx = 0#32 := by decide

theorem witness_LocatedSlicesCanBeFormatted :
    ∃ s t : State, s.params.Legal ∧ exec .fragSlice s = .next t ∧ t.err = 0#4 :=
  ⟨{ host [] with msgLen := 7#32, fragIdx := 2#32 }, _, by decide, rfl, by decide⟩

theorem witness_ClearReturnsToTheResetState : Sound (holding inst16 vf1 [9]) := vf1_sound

/-- Every code a command reports. -/
theorem witness_ErrorCodesComeFromTheirCommands :
    after (exec .verify (holding inst16 (vf1.set 15 0x40) [])) (fun t => t.err == 2#4) = true ∧
    after (exec .parseData (holding inst16 vp4 [])) (fun t => t.err == 3#4) = true ∧
    after (exec .fmtData (fields (host []) 1#32 0#32 2#8 2#32)) (fun t => t.err == 4#4) = true ∧
    after (exec .fragCount { host [] with msgLen := 65#32 }) (fun t => t.err == 5#4) = true ∧
    after (exec .fragSlice { host [] with fragIdx := 1#32 }) (fun t => t.err == 6#4) = true := by decide

/-- States in which two conditions hold at once. -/
theorem witness_FirstErrorConditionIsReported :
    (¬ ChecksumValid (holding inst16 (vp4.set 0 3) []) ∧
      frameCap (holding inst16 (vp4.set 0 3) []) (LE32At (holding inst16 (vp4.set 0 3) []) 6) <
        ((holding inst16 (vp4.set 0 3) []).fb 10).toNat ∧ (holding inst16 (vp4.set 0 3) []).fb 10 ≠ 0#8) ∧
    ((host []).params.maxMsg < (65#32).toNat ∧ (host []).countOf (65#32).toNat ≤ (14#32).toNat) :=
  ⟨⟨(State.frameValid_false_iff _).1 (by decide), by decide +kernel, by decide +kernel⟩, by decide⟩

theorem witness_ErrorsAreNotSticky :
    ∃ (s t u : State) (v : BitVec 8), exec .fmtAck s = .next t ∧ exec .fmtAck { s with status := v } = .next u :=
  ⟨host [], _, _, 0x50#8, exec_fmtAck _, exec_fmtAck _⟩

theorem witness_StatusFieldsAreWrittenOnlyByTheirCommands :
    after (exec .verify (holding inst16 vf1 [])) (fun t => t.ckOk) = true ∧
    after (exec .parseData (holding inst16 vf1 [])) (fun t => t.hasTotal) = true := by decide

theorem witness_CommandsWriteOnlyTheirOperands :
    (inst16.Legal ∧ after (exec .parseData (holding inst16 vf1 []))
      (fun t => t.csumResult != 0#16 && t.msgSeq != 0#32 && t.totSize != 0#32 && t.pb 0 != 0#8) = true) ∧
    after (exec .sealFrame (holding inst16 [0, 0, 1] [])) (fun t => t.fb 0 != 0#8) = true ∧
    after (exec .fmtAck (holding inst16 [0, 0, 1] [])) (fun t => t.fb 2 != 1#8) = true ∧
    after (exec .clear { host [] with msgLen := 1#32, fragIdx := 1#32 }) (fun t => t.msgLen == 0#32) = true ∧
    after (exec .fragSlice { host [] with msgLen := 7#32, fragIdx := 1#32 })
      (fun t => t.fragCnt == 3#32 && t.sliceOff == 1#32 && t.sliceLen == 5#8) = true := by decide

end Sys2Proof.Tests
end

section
/-! What one step does with the input it takes: which steps complete, and which are refused (00_scope.md R4, R6,
R9, R10). -/

namespace Sys2Proof.Machine

open Sys2Proof

/-! ### Every input completes -/

/-- No outcome of a command is a fault or a refusal (60_exceptions.md R200). -/
theorem exec_completes (i : Instr) (s : State) : ∃ t, exec i s = .next t := by
  cases i with
  | nop => exact ⟨_, exec_nop s⟩
  | csum => exact ⟨_, exec_csum s⟩
  | verify => obtain ⟨-, h⟩ | ⟨-, h⟩ := exec_verify s <;> exact ⟨_, h⟩
  | sealFrame => exact ⟨_, exec_seal s⟩
  | fmtData => obtain ⟨-, h⟩ | ⟨-, h⟩ := exec_fmtData s <;> exact ⟨_, h⟩
  | fmtAck => exact ⟨_, exec_fmtAck s⟩
  | parseData => obtain ⟨-, h⟩ | ⟨-, -, h⟩ | ⟨-, -, h⟩ := exec_parseData s <;> exact ⟨_, h⟩
  | parseAck => obtain ⟨-, h⟩ | ⟨-, -, h⟩ | ⟨-, -, h⟩ := exec_parseAck s <;> exact ⟨_, h⟩
  | fragCount => obtain ⟨-, h⟩ | ⟨-, h⟩ := exec_fragCount s <;> exact ⟨_, h⟩
  | fragSlice => obtain ⟨-, h⟩ | ⟨-, -, h⟩ | ⟨-, -, h⟩ := exec_fragSlice s <;> exact ⟨_, h⟩
  | clear => exact ⟨_, exec_clear s⟩

theorem runCommand_of_decode {w : Word} {i : Instr} (h : decode w = .ok i) (s : State) :
    runCommand w s = exec i s := by
  simp only [runCommand, h]

theorem runCommand_of_illegal {w : Word} {e : DecodeReject} (h : decode w = .error e) (s : State) :
    runCommand w s = .next s.rejectWord := by
  simp only [runCommand, h]

/-- A word written to `CMD` completes, whether it is a command or illegal (30_encoding.md R81, R82). -/
theorem runCommand_completes (w : Word) (s : State) : ∃ t, runCommand w s = .next t := by
  cases h : decode w with
  | ok i => rw [runCommand_of_decode h]; exact exec_completes i s
  | error e => exact ⟨_, runCommand_of_illegal h s⟩

theorem performAccess_write32 (addr : Nat) (v : Word) (s : State) :
    performAccess (.write32 addr v) s =
      if addr = Reg.cmd.offset then runCommand v (s.answer .noData)
      else .next ((s.write32 addr v).answer .noData) := rfl

/-- Only a Write32 to `CMD` runs a command; each of the other accesses answers a state outright. -/
theorem performAccess_completes (a : Access) (s : State) : ∃ t, performAccess a s = .next t := by
  cases a with
  | read32 addr => exact ⟨_, rfl⟩
  | read8 addr => exact ⟨_, rfl⟩
  | write8 addr b => exact ⟨_, rfl⟩
  | write32 addr v =>
    rw [performAccess_write32]
    split
    · exact runCommand_completes v _
    · exact ⟨_, rfl⟩

theorem performInput_completes (i : Input) (s : State) : ∃ t, performInput i s = .next t := by
  cases i with
  | access a => exact performAccess_completes a s
  | reset => exact ⟨_, rfl⟩

theorem performNext_of_pending_nil {s : State} (h : s.pending = []) : performNext s = .next s := by
  simp only [performNext, h]

theorem performNext_of_pending_cons {s : State} {i : Input} {rest : List Input} (h : s.pending = i :: rest) :
    performNext s = performInput i { s with pending := rest } := by
  simp only [performNext, h]

theorem performNext_completes (s : State) : ∃ t, performNext s = .next t := by
  cases h : s.pending with
  | nil => exact ⟨s, performNext_of_pending_nil h⟩
  | cons i rest => rw [performNext_of_pending_cons h]; exact performInput_completes i _

/-! ### The step of a legal instance, and of any other -/

theorem step_of_legal {s : State} (h : s.params.Legal) : step s = performNext s := if_pos h

theorem step_of_not_legal {s : State} (h : ¬ s.params.Legal) : step s = .refused .illegalInstance := if_neg h

/-- A legal instance's step completes, so it is not refused; any other's is. -/
theorem step_refused_illegalInstance_iff (s : State) :
    step s = .refused .illegalInstance ↔ ¬ s.params.Legal := by
  refine ⟨fun href hlegal => ?_, step_of_not_legal⟩
  obtain ⟨t, ht⟩ := performNext_completes s
  rw [step_of_legal hlegal, ht] at href
  cases href

/-- `Params.Legal` is the two ranges of 00_scope.md R4 and R6, with R6's bound written as a power of two. -/
theorem params_legal_iff (p : Params) :
    p.Legal ↔ 15 ≤ p.frameSize ∧ p.frameSize ≤ 266 ∧ p.maxMsg ≤ 2 ^ 32 - 1 := Iff.rfl

/-! ### The obligations -/

/-- Settles O9: a legal instance's step performs its next input, and there is none. -/
theorem stepWithoutInputChangesNothing : Obligations.StepWithoutInputChangesNothing := by
  intro s hlegal hnone
  rw [step_of_legal hlegal, performNext_of_pending_nil hnone]

/-- Settles O10: every input of a legal instance completes, so only the test of the parameters refuses. -/
theorem exactlyIllegalInstancesAreRefused : Obligations.ExactlyIllegalInstancesAreRefused := by
  intro s
  rw [step_refused_illegalInstance_iff, params_legal_iff]

end Sys2Proof.Machine
end

section
/-! What a step does with a host's access to a register: a command word written to `CMD` runs, a Read32 returns the
register, a Write32 reaches `State.writeReg` (10_state.md R20 to R37; 20_memory.md R52, R54). -/

namespace Sys2Proof.Machine

open Sys2Proof Sys2Proof.Safety

theorem step_of_access {s : State} {a : Access} {rest : List Input} (hlegal : s.params.Legal)
    (hpend : s.pending = .access a :: rest) : step s = performAccess a { s with pending := rest } := by
  rw [step_of_legal hlegal, performNext_of_pending_cons hpend]; rfl

/-! ### Command words written to `CMD` -/

/-- 20_memory.md R54: the Write32 of a command's word to `CMD` runs the command. -/
theorem step_of_commandWord {s : State} {w : Word} {i : Instr} {rest : List Input} (hlegal : s.params.Legal)
    (hpend : s.pending = .access (.write32 Reg.cmd.offset w) :: rest) (hdec : decode w = .ok i) :
    step s = exec i { s with pending := rest, reply := .noData } := by
  rw [step_of_access hlegal hpend, performAccess_write32, if_pos rfl, runCommand_of_decode hdec]; rfl

theorem decode_encode (i : Instr) : decode (encode i) = .ok i := by
  cases i <;> rfl

/-- Every 32-bit value is the table word of its own bits (30_encoding.md R85). -/
theorem tableWord_toNat (w : Word) : tableWord 32 w.toNat = some w := by
  have hmod : w.toNat % 2 ^ 32 = w.toNat := Nat.mod_eq_of_lt w.isLt
  rw [tableWord, hmod, if_pos w.isLt, BitVec.ofNat_toNat, BitVec.setWidth_eq]

theorem withFetchWord_toNat (s : State) (w : Word) : s.withFetchWord 32 w.toNat = s.postCommand w := by
  simp only [State.withFetchWord, tableWord_toNat]

/-- Settles O4: the address 0x000 is that of `CMD`. -/
theorem stepRunsTheDecodedCommand : Obligations.StepRunsTheDecodedCommand := by
  intro s w i rest hlegal hpend hdec
  exact step_of_commandWord hlegal hpend hdec

/-- Settles O5: the posted word is at the head of the queue, and the queue behind it is the one before. -/
theorem postedWordRunsAsTheNextStep : Obligations.PostedWordRunsAsTheNextStep := by
  intro s i hlegal
  rw [withFetchWord_toNat]
  exact step_of_commandWord (s := s.postCommand (encode i)) hlegal rfl (decode_encode i)

/-! ### Registers read and written -/

/-- The registers in the order of their offsets (10_state.md R20). -/
def Reg.byOffset : List Reg :=
  [.cmd, .status, .cfgF, .cfgCap, .cfgMaxMsg, .csumResult, .msgSeq, .fragSeq, .plen, .totSize, .msgLen, .fragIdx,
    .fragCnt, .sliceOff, .sliceLen]

/-- The registers a host write does not change, besides `CMD` (10_state.md R27, R28, R29, R36, R37). -/
def Reg.readOnly : List Reg :=
  [.status, .cfgF, .cfgCap, .cfgMaxMsg, .csumResult, .fragCnt, .sliceOff, .sliceLen]

@[simp] theorem regAt_offset (r : Reg) : regAt r.offset = some r := by
  cases r <;> rfl

/-- Every register lies in the block's window (20_memory.md R50). -/
@[simp] theorem selects_offset (r : Reg) : selects r.offset = true := by
  cases r <;> rfl

theorem offset_eq_cmd_iff (r : Reg) : r.offset = Reg.cmd.offset ↔ r = .cmd := by
  cases r <;> decide

@[simp] theorem State.read32_offset (s : State) (r : Reg) : s.read32 r.offset = s.readReg r := by
  simp only [State.read32, regAt_offset]

@[simp] theorem State.write32_offset (s : State) (r : Reg) (v : Word) : s.write32 r.offset v = s.writeReg r v := by
  simp only [State.write32, regAt_offset]

theorem performAccess_read32_offset (r : Reg) (s : State) :
    performAccess (.read32 r.offset) s = .next (s.answer (.word (s.readReg r))) := by
  simp only [performAccess, selects_offset, if_true, State.read32_offset]

theorem performAccess_write32_offset {r : Reg} (hcmd : r ≠ .cmd) (v : Word) (s : State) :
    performAccess (.write32 r.offset v) s = .next ((s.writeReg r v).answer .noData) := by
  rw [performAccess_write32, if_neg (mt (offset_eq_cmd_iff r).1 hcmd), State.write32_offset]

/-- What a register holds does not depend on the inputs still to come (log 3). -/
theorem State.readReg_pending (s : State) (rest : List Input) (r : Reg) :
    { s with pending := rest }.readReg r = s.readReg r := by
  cases r <;> rfl

theorem State.writeReg_readOnly {r : Reg} (hr : r ∈ Reg.readOnly) (s : State) (v : Word) : s.writeReg r v = s := by
  cases r with
  | msgSeq | fragSeq | plen | totSize | msgLen | fragIdx => exact absurd hr (by decide)
  | _ => rfl

/-- A Read32 of a register returns it and changes nothing else (20_memory.md R52). -/
theorem step_read32_offset {s : State} {rest : List Input} {r : Reg} (hlegal : s.params.Legal)
    (hpend : s.pending = .access (.read32 r.offset) :: rest) :
    step s = .next { s with pending := rest, reply := .word (s.readReg r) } := by
  rw [step_of_access hlegal hpend, performAccess_read32_offset, State.readReg_pending]; rfl

/-- A Write32 to a register other than `CMD` does what `State.writeReg` says and returns no data. -/
theorem step_write32_offset {s : State} {rest : List Input} {r : Reg} {v : Word} (hlegal : s.params.Legal)
    (hcmd : r ≠ .cmd) (hpend : s.pending = .access (.write32 r.offset v) :: rest) :
    step s = .next (({ s with pending := rest }.writeReg r v).answer .noData) := by
  rw [step_of_access hlegal hpend, performAccess_write32_offset hcmd]

/-- Settles O15: the offsets and values listed are those of the registers in their order. -/
theorem read32ReturnsTheRegister : Obligations.Read32ReturnsTheRegister := by
  intro s rest addr v hlegal hmem hpend
  have hreg : (addr, v) ∈ Reg.byOffset.map (fun r => (r.offset, s.readReg r)) := hmem
  obtain ⟨r, -, heq⟩ := List.mem_map.1 hreg
  obtain ⟨rfl, rfl⟩ := Prod.mk.inj heq
  exact step_read32_offset hlegal hpend

/-- Settles O18: the offsets listed are those of the read-only registers. -/
theorem write32ToAReadOnlyRegisterIsIgnored : Obligations.Write32ToAReadOnlyRegisterIsIgnored := by
  intro s rest addr v hlegal hmem hpend
  have hreg : addr ∈ Reg.readOnly.map Reg.offset := hmem
  obtain ⟨r, hr, rfl⟩ := List.mem_map.1 hreg
  have hcmd : r ≠ .cmd := by rintro rfl; exact absurd hr (by decide)
  rw [step_write32_offset hlegal hcmd hpend, State.writeReg_readOnly hr]; rfl

end Sys2Proof.Machine
end

section
/-! The fields of `STATUS`: what a read of it shows, and which commands write which of them (10_state.md R27;
44_control.md R181). -/

namespace Sys2Proof.Machine

open Sys2Proof Sys2Proof.Safety

/-- Settles O16: `STATUS` is the sum of its fields, and `Sound` says that the reserved one is 0. -/
theorem readStatusShowsItsFields : Obligations.ReadStatusShowsItsFields := by
  intro s rest hsound hpend
  refine ⟨s.readReg .status, step_read32_offset (r := .status) hsound.legal hpend, ?_⟩
  have hread : (s.readReg .status).toNat = s.status.toNat := BitVec.toNat_setWidth_of_le (by decide)
  have hreserved : s.statusReserved.toNat = 0 := by rw [hsound.reservedZero]; rfl
  rw [hread, s.status_toNat, hreserved]; omega

/-- What the transition of command `i` from `s` to `t` may do to the fields of `STATUS` besides `ERR`: `CK_OK` and
`HAS_TOTAL` change only in their commands, the reserved bits in none. -/
def StatusWritesAllowed (i : Instr) (s t : State) : Prop :=
  t.statusReserved = s.statusReserved ∧
  (t.ckOk ≠ s.ckOk → i ∈ [Instr.verify, .parseData, .parseAck, .clear]) ∧
  (t.hasTotal ≠ s.hasTotal → i ∈ [Instr.parseData, .parseAck, .clear])

/-- Any command may write `ERR` and leave the rest of `STATUS` as it was. -/
theorem statusWritesAllowed_setErr {i : Instr} {s u : State} (c : ErrCode) (hu : u.status = s.status) :
    StatusWritesAllowed i s (u.setErr c) := by
  have hres : u.statusReserved = s.statusReserved := by simp only [State.statusReserved, hu]
  have hck : u.ckOk = s.ckOk := by simp only [State.ckOk, hu]
  have htot : u.hasTotal = s.hasTotal := by simp only [State.hasTotal, hu]
  exact ⟨by simp [hres], by simp [hck], by simp [htot]⟩

/-- The commands of both lists are held to the reserved bits alone. -/
theorem statusWritesAllowed_of_mem {i : Instr} {s t : State} (hi : i ∈ [Instr.parseData, .parseAck, .clear])
    (hres : t.statusReserved = s.statusReserved) : StatusWritesAllowed i s t :=
  ⟨hres, fun _ => List.mem_cons_of_mem _ hi, fun _ => hi⟩

/-- VERIFY may write `CK_OK` but not `HAS_TOTAL` (40_checksum.md R104). -/
theorem statusWritesAllowed_verify {s t : State} (hres : t.statusReserved = s.statusReserved)
    (htot : t.hasTotal = s.hasTotal) : StatusWritesAllowed .verify s t :=
  ⟨hres, fun _ => List.mem_cons_self, fun h => absurd htot h⟩

/-- Every outcome of every command keeps to its allowed writes of `STATUS`. -/
theorem exec_statusWritesAllowed (i : Instr) (s : State) :
    ∃ t, exec i s = .next t ∧ StatusWritesAllowed i s t := by
  cases i with
  | nop => exact ⟨_, exec_nop s, statusWritesAllowed_setErr _ rfl⟩
  | csum => exact ⟨_, exec_csum s, statusWritesAllowed_setErr _ (by simp)⟩
  | verify =>
    obtain ⟨-, h⟩ | ⟨-, h⟩ := exec_verify s <;>
      exact ⟨_, h, statusWritesAllowed_verify (by simp) (by simp)⟩
  | sealFrame => exact ⟨_, exec_seal s, statusWritesAllowed_setErr _ (by simp)⟩
  | fmtData =>
    obtain ⟨-, h⟩ | ⟨-, h⟩ := exec_fmtData s <;> exact ⟨_, h, statusWritesAllowed_setErr _ (by simp)⟩
  | fmtAck => exact ⟨_, exec_fmtAck s, statusWritesAllowed_setErr _ (by simp)⟩
  | parseData =>
    obtain ⟨-, h⟩ | ⟨-, -, h⟩ | ⟨-, -, h⟩ := exec_parseData s <;>
      exact ⟨_, h, statusWritesAllowed_of_mem (by decide) (by simp)⟩
  | parseAck =>
    obtain ⟨-, h⟩ | ⟨-, -, h⟩ | ⟨-, -, h⟩ := exec_parseAck s <;>
      exact ⟨_, h, statusWritesAllowed_of_mem (by decide) (by simp)⟩
  | fragCount =>
    obtain ⟨-, h⟩ | ⟨-, h⟩ := exec_fragCount s <;> exact ⟨_, h, statusWritesAllowed_setErr _ (by simp)⟩
  | fragSlice =>
    obtain ⟨-, h⟩ | ⟨-, -, h⟩ | ⟨-, -, h⟩ := exec_fragSlice s <;>
      exact ⟨_, h, statusWritesAllowed_setErr _ (by simp)⟩
  | clear => exact ⟨_, exec_clear s, statusWritesAllowed_of_mem (by decide) (by simp)⟩

/-- Settles O58: the one next state of the command is the one that keeps to the allowed writes. -/
theorem statusFieldsAreWrittenOnlyByTheirCommands : Obligations.StatusFieldsAreWrittenOnlyByTheirCommands := by
  intro i s t h
  obtain ⟨u, hu, hallowed⟩ := exec_statusWritesAllowed i s
  rw [exec_next_unique h hu]
  exact hallowed

end Sys2Proof.Machine
end

section
/-! The reset values, and the all-zero frame that the buffers hold after reset (10_state.md R38, R39). -/

namespace Sys2Proof.Machine

open Sys2Proof Sys2Proof.Safety

theorem fb_resetOf (p : Params) (i : Nat) : (State.resetOf p).fb i = 0#8 := by
  unfold State.fb; split <;> rfl

theorem pb_resetOf (p : Params) (j : Nat) : (State.resetOf p).pb j = 0#8 := by
  unfold State.pb; split <;> rfl

theorem err_resetOf (p : Params) : (State.resetOf p).err = 0#4 := by
  simp [State.err, State.resetOf]

theorem ckOk_resetOf (p : Params) : (State.resetOf p).ckOk = false := BitVec.getLsbD_zero

theorem hasTotal_resetOf (p : Params) : (State.resetOf p).hasTotal = false := BitVec.getLsbD_zero

/-- Every register but the three constants is 0 after reset (10_state.md R38). -/
theorem readReg_resetOf (p : Params) {r : Reg} (hF : r ≠ .cfgF) (hCap : r ≠ .cfgCap) (hMax : r ≠ .cfgMaxMsg) :
    (State.resetOf p).readReg r = 0#32 := by
  cases r with
  | cfgF => exact absurd rfl hF
  | cfgCap => exact absurd rfl hCap
  | cfgMaxMsg => exact absurd rfl hMax
  | _ => rfl

/-! ### The constants of a legal instance fit in their registers (10_state.md R28) -/

theorem State.readReg_cfgF_toNat {s : State} (h : s.params.Legal) :
    (s.readReg .cfgF).toNat = s.params.frameSize := by
  have hF := h.2.1
  rw [State.readReg, BitVec.toNat_ofNat, Nat.mod_eq_of_lt (by omega)]

theorem State.readReg_cfgCap_toNat {s : State} (h : s.params.Legal) : (s.readReg .cfgCap).toNat = s.capacity := by
  have hcap := State.capacity_le h
  rw [State.readReg, BitVec.toNat_ofNat, Nat.mod_eq_of_lt (by omega)]

theorem State.readReg_cfgMaxMsg_toNat {s : State} (h : s.params.Legal) :
    (s.readReg .cfgMaxMsg).toNat = s.params.maxMsg := by
  have hmax := h.2.2
  rw [State.readReg, BitVec.toNat_ofNat, Nat.mod_eq_of_lt (by omega)]

/-- Settles O11: the constants by their widths, everything else by the reset values. -/
theorem resetStateHoldsTheResetValues : Obligations.ResetStateHoldsTheResetValues := by
  intro p hlegal
  have hs : (State.resetOf p).params.Legal := hlegal
  exact ⟨fb_resetOf p, pb_resetOf p, fun _ => readReg_resetOf p, State.readReg_cfgF_toNat hs,
    State.readReg_cfgCap_toNat hs, State.readReg_cfgMaxMsg_toNat hs,
    err_resetOf p, ckOk_resetOf p, hasTotal_resetOf p⟩

/-! ### The all-zero frame -/

theorem LE16At_of_zero {s : State} (hz : ∀ i, s.fb i = 0#8) (a : Nat) : LE16At s a = 0 := by
  simp [LE16At, hz]

theorem State.le32_of_zero {s : State} (hz : ∀ i, s.fb i = 0#8) (a : Nat) : s.le32 a = 0#32 := by
  simp [State.le32, hz]

/-- Sum and stored checksum of the all-zero frame are both 0 (10_state.md R39). -/
theorem checksumValid_of_zero {s : State} (hz : ∀ i, s.fb i = 0#8) : ChecksumValid s := by
  have hsum : coveredSum s = 0 := Finset.sum_eq_zero (fun i _ => LE16At_of_zero hz _)
  rw [ChecksumValid, hsum, LE16At_of_zero hz 0]

/-- VERIFY of a valid frame sets `CK_OK` and reports no error (40_checksum.md R104). -/
theorem exec_verify_accepts {s : State} (hv : ChecksumValid s) :
    ∃ t, exec .verify s = .next t ∧ t.ckOk = true ∧ t.err = 0#4 :=
  ⟨_, exec_verify_valid hv, by simp, by simp [ErrCode.code]⟩

/-- Settles O34: the frame is valid, its payload length 0 fits, and every field loaded from it is 0. -/
theorem allZeroFrameIsAccepted : Obligations.AllZeroFrameIsAccepted := by
  intro s _ hz
  have hv := checksumValid_of_zero hz
  have hfits : (s.fb 10).toNat ≤ frameCap s (LE32At s 6) := by simp [hz]
  have hmsg : s.frameMsgSeq = 0#32 := State.le32_of_zero hz 2
  have hfrag : s.frameFragSeq = 0#32 := State.le32_of_zero hz 6
  have hlen : s.framePlen = 0#8 := hz 10
  have htot : s.frameTotSize = 0#32 := State.le32_of_zero hz 11
  refine ⟨exec_verify_accepts hv, _, exec_parseData_accepts hv hfits, ?_⟩
  simp [ErrCode.code, State.parsedData_totSize, hmsg, hfrag, hlen, htot]

end Sys2Proof.Machine
end

section
/-! The host's 32-bit accesses over the whole address space: the read/write registers, and the addresses at which no
register stands (10_state.md R20, R30 to R35; 20_memory.md R50, R52, R53). -/

namespace Sys2Proof.Machine

open Sys2Proof

/-! ### Where the registers stand -/

theorem offset_of_regAt {addr : Nat} {r : Reg} (h : regAt addr = some r) : addr = r.offset := by
  unfold regAt at h
  split at h <;> cases h <;> rfl

/-- The offsets are the multiples of 4 up to 0x038 (10_state.md R20). -/
theorem Reg.offset_aligned (r : Reg) : r.offset % 4 = 0 ∧ r.offset ≤ 0x038 := by
  cases r <;> decide

theorem regAt_eq_none {addr : Nat} (h : ¬ (addr % 4 = 0 ∧ addr ≤ 0x038)) : regAt addr = none := by
  cases hreg : regAt addr with
  | none => rfl
  | some r => exact absurd (offset_of_regAt hreg ▸ r.offset_aligned) h

theorem ne_cmd_offset_of_regAt {addr : Nat} (h : regAt addr = none) : addr ≠ Reg.cmd.offset := by
  rintro rfl
  rw [regAt_offset] at h
  cases h

theorem State.read32_of_regAt_none {addr : Nat} (h : regAt addr = none) (s : State) : s.read32 addr = 0#32 := by
  simp only [State.read32, h]

theorem State.write32_of_regAt_none {addr : Nat} (h : regAt addr = none) (s : State) (v : Word) :
    s.write32 addr v = s := by
  simp only [State.write32, h]

theorem selects_of_lt {addr : Nat} (h : addr < 0x400) : selects addr = true := decide_eq_true h

theorem selects_of_le {addr : Nat} (h : 0x400 ≤ addr) : selects addr = false := decide_eq_false (by omega)

/-! ### The step of a 32-bit access -/

/-- A Read32 changes nothing in the block, and returns data exactly within the window (20_memory.md R50, R54). -/
theorem step_read32 {s : State} {rest : List Input} {addr : Nat} (hlegal : s.params.Legal)
    (hpend : s.pending = .access (.read32 addr) :: rest) :
    step s = .next
      { s with pending := rest, reply := if selects addr then .word (s.read32 addr) else .noData } := by
  rw [step_of_access hlegal hpend]; rfl

/-- A Write32 where no register stands changes nothing in the block. -/
theorem step_write32_of_regAt_none {s : State} {rest : List Input} {addr : Nat} {v : Word}
    (hlegal : s.params.Legal) (hreg : regAt addr = none)
    (hpend : s.pending = .access (.write32 addr v) :: rest) :
    step s = .next { s with pending := rest, reply := .noData } := by
  rw [step_of_access hlegal hpend, performAccess_write32, if_neg (ne_cmd_offset_of_regAt hreg),
    State.write32_of_regAt_none hreg]
  rfl

/-- Settles O19: no register stands at such an address. -/
theorem wordAccessOutsideTheRegistersReadsZeroWritesNothing :
    Obligations.WordAccessOutsideTheRegistersReadsZeroWritesNothing := by
  intro s rest addr v hlegal hwindow hoff
  have hreg := regAt_eq_none hoff
  refine ⟨fun hpend => ?_, step_write32_of_regAt_none hlegal hreg⟩
  rw [step_read32 hlegal hpend, if_pos (selects_of_lt hwindow), State.read32_of_regAt_none hreg]

/-! ### The read/write registers -/

/-- The registers a host write changes, in the order of their offsets (10_state.md R30 to R35). -/
def Reg.writable : List Reg := [.msgSeq, .fragSeq, .plen, .totSize, .msgLen, .fragIdx]

/-- The low byte of a word, as the number modulo 256 (10_state.md R32). -/
theorem extractLsb'_eq_ofNat_mod (v : Word) : v.extractLsb' 0 8 = BitVec.ofNat 8 (v.toNat % 256) := by
  apply BitVec.eq_of_toNat_eq
  simp

/-- What a register write stores does not depend on the inputs still to come, and leaves them (log 3). -/
theorem State.writeReg_pending (s : State) (rest : List Input) (r : Reg) (v : Word) :
    { s with pending := rest }.writeReg r v = { s.writeReg r v with pending := rest } := by
  cases r <;> rfl

/-- Settles O17: the offsets and states listed are those of the writable registers in their order. -/
theorem write32StoresIntoTheWritableRegisters : Obligations.Write32StoresIntoTheWritableRegisters := by
  intro s t rest addr v hlegal hmem hpend
  rw [← extractLsb'_eq_ofNat_mod] at hmem
  have hreg : (addr, t) ∈ Reg.writable.map (fun r => (r.offset, s.writeReg r v)) := hmem
  obtain ⟨r, hr, heq⟩ := List.mem_map.1 hreg
  obtain ⟨rfl, rfl⟩ := Prod.mk.inj heq
  have hcmd : r ≠ .cmd := by rintro rfl; exact absurd hr (by decide)
  rw [step_write32_offset hlegal hcmd hpend, State.writeReg_pending]; rfl

end Sys2Proof.Machine
end

section
/-! The host's byte accesses: which bytes of the two windows are backed, and what a Read8 and a Write8 do at every
address (20_memory.md R50, R52 to R54, R56). -/

namespace Sys2Proof.Machine

open Sys2Proof

/-! ### Backed bytes -/

/-- `addr` is the address of a byte of `PB` or of `FB` (20_memory.md R50, R53). -/
abbrev State.BackedAt (s : State) (addr : Nat) : Prop :=
  (pbBase ≤ addr ∧ addr < pbBase + s.capacity) ∨ (fbBase ≤ addr ∧ addr < fbBase + s.params.frameSize)

/-- Both buffers end within the block's window (20_memory.md R50). -/
theorem State.BackedAt.lt_window {s : State} {addr : Nat} (hlegal : s.params.Legal) (h : s.BackedAt addr) :
    addr < 0x400 := by
  have hcap := State.capacity_le hlegal
  have hF := hlegal.2.1
  unfold State.BackedAt pbBase fbBase at h
  omega

theorem State.not_backedAt_of_lt {s : State} {addr : Nat} (h : addr < pbBase) : ¬ s.BackedAt addr := by
  unfold State.BackedAt pbBase fbBase at *
  omega

theorem State.backedAt_pb_iff {s : State} {j : Nat} (hj : pbBase + j < fbBase) :
    s.BackedAt (pbBase + j) ↔ j < s.capacity := by
  unfold State.BackedAt
  omega

/-- The PB window ends below the FB window, since `CAP <= 255` (20_memory.md R53). -/
theorem State.backedAt_fb_iff {s : State} (hlegal : s.params.Legal) (i : Nat) :
    s.BackedAt (fbBase + i) ↔ i < s.params.frameSize := by
  have hcap := State.capacity_le hlegal
  unfold State.BackedAt pbBase fbBase
  omega

/-- The window is the register region, then that of `PB`, then that of `FB` (20_memory.md R50). -/
theorem addr_region (addr : Nat) :
    addr < pbBase ∨ (∃ j, addr = pbBase + j ∧ pbBase + j < fbBase) ∨ ∃ i, addr = fbBase + i := by
  rcases Nat.lt_or_ge addr pbBase with hreg | hpb
  · exact .inl hreg
  · obtain ⟨j, rfl⟩ := Nat.exists_eq_add_of_le hpb
    rcases Nat.lt_or_ge (pbBase + j) fbBase with hlt | hfb
    · exact .inr (.inl ⟨j, rfl, hlt⟩)
    · exact .inr (.inr (Nat.exists_eq_add_of_le hfb))

/-- Above the register region a byte is backed exactly where R53 gives the window a byte. -/
theorem State.backedAt_iff {s : State} {addr : Nat} (hlegal : s.params.Legal) (h : 0x100 ≤ addr) :
    s.BackedAt addr ↔ (addr < 0x200 ∧ addr - 0x100 < s.params.frameSize - 11) ∨
      (0x200 ≤ addr ∧ addr - 0x200 < s.params.frameSize) := by
  have hF := hlegal.2.1
  unfold State.BackedAt State.capacity pbBase fbBase
  omega

/-! ### What a Read8 reads and a Write8 writes -/

theorem State.read8_pb (s : State) {j : Nat} (hj : pbBase + j < fbBase) : s.read8 (pbBase + j) = s.pb j := by
  rw [State.read8, if_neg (by omega), if_pos hj, Nat.add_sub_cancel_left]

theorem State.read8_fb (s : State) (i : Nat) : s.read8 (fbBase + i) = s.fb i := by
  rw [State.read8, if_neg (by unfold pbBase fbBase; omega), if_neg (by omega), Nat.add_sub_cancel_left]

theorem State.write8_pb (s : State) {j : Nat} (hj : pbBase + j < fbBase) (b : Byte) :
    s.write8 (pbBase + j) b = s.setPb j b := by
  rw [State.write8, if_neg (by omega), if_pos hj, Nat.add_sub_cancel_left]

theorem State.write8_fb (s : State) (i : Nat) (b : Byte) : s.write8 (fbBase + i) b = s.setFb i b := by
  rw [State.write8, if_neg (by unfold pbBase fbBase; omega), if_neg (by omega), Nat.add_sub_cancel_left]

/-- A Read8 reads the backed byte, and 0 everywhere else (20_memory.md R52, R53). -/
theorem State.read8_eq {s : State} (hlegal : s.params.Legal) (addr : Nat) :
    s.read8 addr = if s.BackedAt addr then Memory.read s.mem addr else 0#8 := by
  rcases addr_region addr with hreg | ⟨j, rfl, hj⟩ | ⟨i, rfl⟩
  · rw [State.read8, if_pos hreg, if_neg (State.not_backedAt_of_lt hreg)]
  · simp only [State.read8_pb s hj, State.pb, State.backedAt_pb_iff hj]
  · simp only [State.read8_fb, State.fb, State.backedAt_fb_iff hlegal]

/-- A Write8 writes the backed byte, and nothing everywhere else (20_memory.md R52, R53). -/
theorem State.write8_eq {s : State} (hlegal : s.params.Legal) (addr : Nat) (b : Byte) :
    s.write8 addr b = if s.BackedAt addr then { s with mem := s.mem.write addr b } else s := by
  rcases addr_region addr with hreg | ⟨j, rfl, hj⟩ | ⟨i, rfl⟩
  · rw [State.write8, if_pos hreg, if_neg (State.not_backedAt_of_lt hreg)]
  · simp only [State.write8_pb s hj, State.setPb, State.backedAt_pb_iff hj]
  · simp only [State.write8_fb, State.setFb, State.backedAt_fb_iff hlegal]

/-! ### The step of a byte access -/

/-- A Read8 changes nothing in the block, and returns data exactly within the window (20_memory.md R50, R54). -/
theorem step_read8 {s : State} {rest : List Input} {addr : Nat} (hlegal : s.params.Legal)
    (hpend : s.pending = .access (.read8 addr) :: rest) :
    step s = .next
      { s with pending := rest, reply := if selects addr then .byte (s.read8 addr) else .noData } := by
  rw [step_of_access hlegal hpend]; rfl

theorem performAccess_write8_backed {s : State} {addr : Nat} (hlegal : s.params.Legal) (hback : s.BackedAt addr)
    (b : Byte) :
    performAccess (.write8 addr b) s = .next { s with mem := s.mem.write addr b, reply := .noData } := by
  have hsel := selects_of_lt (hback.lt_window hlegal)
  rw [performAccess, if_pos hsel, State.write8_eq hlegal, if_pos hback, State.answer]

theorem performAccess_write8_unbacked {s : State} {addr : Nat} (hlegal : s.params.Legal) (hback : ¬ s.BackedAt addr)
    (b : Byte) : performAccess (.write8 addr b) s = .next (s.answer .noData) := by
  rw [performAccess, State.write8_eq hlegal, if_neg hback, ite_self]

/-- A Write8 to a backed byte writes it and nothing else (20_memory.md R53). -/
theorem step_write8_backed {s : State} {rest : List Input} {addr : Nat} {b : Byte} (hlegal : s.params.Legal)
    (hback : s.BackedAt addr) (hpend : s.pending = .access (.write8 addr b) :: rest) :
    step s = .next { s with mem := s.mem.write addr b, pending := rest, reply := .noData } := by
  rw [step_of_access hlegal hpend]
  exact performAccess_write8_backed (s := { s with pending := rest }) hlegal hback b

/-- A Write8 to any other address changes nothing in the block (20_memory.md R50, R52, R53). -/
theorem step_write8_unbacked {s : State} {rest : List Input} {addr : Nat} {b : Byte} (hlegal : s.params.Legal)
    (hback : ¬ s.BackedAt addr) (hpend : s.pending = .access (.write8 addr b) :: rest) :
    step s = .next { s with pending := rest, reply := .noData } := by
  rw [step_of_access hlegal hpend]
  exact performAccess_write8_unbacked (s := { s with pending := rest }) hlegal hback b

/-- Settles O22: the addresses named are the backed ones of the two windows. -/
theorem write8ChangesExactlyOneBackedByte : Obligations.Write8ChangesExactlyOneBackedByte := by
  intro s rest addr b hlegal hlo _ hpend
  rw [← State.backedAt_iff hlegal hlo]
  by_cases hback : s.BackedAt addr
  · refine ⟨_, step_write8_backed hlegal hback hpend, rfl, fun _ => ⟨?_, fun a ha => ?_⟩, absurd hback⟩
    · rw [Memory.read_write, if_pos rfl]
    · rw [Memory.read_write, if_neg ha]
  · exact ⟨_, step_write8_unbacked hlegal hback hpend, rfl, fun h => absurd h hback, fun _ => rfl⟩

/-- Settles O24: the address stays backed, and the memory reads there as the byte written. -/
theorem byteReadAfterWriteReturnsTheWrittenByte : Obligations.ByteReadAfterWriteReturnsTheWrittenByte := by
  intro s rest addr b hlegal haddr hpend
  have hback : s.BackedAt addr := by
    have hF := hlegal.1
    unfold State.BackedAt State.capacity pbBase fbBase
    omega
  refine ⟨_, _, step_write8_backed hlegal hback hpend, step_read8 (by exact hlegal) rfl, ?_, rfl⟩
  rw [if_pos (selects_of_lt (hback.lt_window hlegal)), State.read8_eq (by exact hlegal), if_pos (by exact hback),
    Memory.read_write, if_pos rfl]

/-- Settles O20: no byte of the register region is backed. -/
theorem byteAccessToTheRegisterRegionDoesNothing : Obligations.ByteAccessToTheRegisterRegionDoesNothing := by
  intro s rest addr b hlegal hlt
  have hback : ¬ s.BackedAt addr := State.not_backedAt_of_lt hlt
  refine ⟨fun hpend => ?_, step_write8_unbacked hlegal hback⟩
  rw [step_read8 hlegal hpend, if_pos (selects_of_lt (by omega)), State.read8_eq hlegal, if_neg hback]

/-- Settles O21: the bounds of each window are those of its backed bytes. -/
theorem read8ReturnsTheBufferByte : Obligations.Read8ReturnsTheBufferByte := by
  intro s rest addr hlegal hlo hhi hpend
  rw [step_read8 hlegal hpend, if_pos (selects_of_lt hhi), State.read8_eq hlegal]
  by_cases hpb : addr < 0x200
  · have hfb : ¬ 0x200 ≤ addr := by omega
    simp only [State.backedAt_iff hlegal hlo, hpb, hfb, true_and, false_and, or_false, if_true]
  · have hfb : 0x200 ≤ addr := by omega
    simp only [State.backedAt_iff hlegal hlo, hpb, hfb, true_and, false_and, false_or, if_false]

end Sys2Proof.Machine
end

section
/-! What holds of accesses of both widths: reads are free of side effects, and above the window the block is not
selected (20_memory.md R50, R54). -/

namespace Sys2Proof.Machine

open Sys2Proof

/-- Settles O23: what a read returns depends on neither the queue nor the data returned before. -/
theorem readsAreFreeOfSideEffects : Obligations.ReadsAreFreeOfSideEffects := by
  rintro s rest a hlegal ⟨addr, rfl | rfl⟩ hpend
  · exact ⟨_, step_read32 hlegal hpend, step_read32 (by exact hlegal) rfl⟩
  · exact ⟨_, step_read8 hlegal hpend, step_read8 (by exact hlegal) rfl⟩

/-- Settles O25: no register and no backed byte stands above the window. -/
theorem accessAboveTheWindowDoesNothing : Obligations.AccessAboveTheWindowDoesNothing := by
  intro s rest addr v b a hlegal hhi ha hpend
  have hsel : ¬ selects addr = true := by rw [selects_of_le hhi]; decide
  simp only [List.mem_cons, List.not_mem_nil, or_false] at ha
  obtain rfl | rfl | rfl | rfl := ha
  · rw [step_read32 hlegal hpend, if_neg hsel]
  · exact step_write32_of_regAt_none hlegal (regAt_eq_none (by omega)) hpend
  · rw [step_read8 hlegal hpend, if_neg hsel]
  · exact step_write8_unbacked hlegal (fun hback => by have := hback.lt_window hlegal; omega) hpend

end Sys2Proof.Machine
end

section
/-! The bytes of `MSGSEQ` after an accepting PARSE_DATA (20_memory.md R59, R60; 42_parse.md R140). -/

namespace Sys2Proof.Machine

open Sys2Proof Sys2Proof.Safety

/-- Byte `k` of `LE32(FB, a)` is `FB[a + k]` (00_scope.md R13; 20_memory.md R59). -/
theorem State.extractLsb'_le32 (s : State) (a : Nat) {k : Nat} (hk : k < 4) :
    (s.le32 a).extractLsb' (8 * k) 8 = s.fb (a + k) := by
  have h0 := (s.fb a).isLt
  have h1 := (s.fb (a + 1)).isLt
  have h2 := (s.fb (a + 2)).isLt
  have h3 := (s.fb (a + 3)).isLt
  apply BitVec.eq_of_toNat_eq
  rw [BitVec.extractLsb'_toNat, State.le32_toNat, Nat.shiftRight_eq_div_pow]
  match k, hk with
  | 0, _ => simp only [Nat.add_zero]; omega
  | 1, _ => omega
  | 2, _ => omega
  | 3, _ => omega

theorem State.fb_loadPayload {s : State} (hlegal : s.params.Legal) (i : Nat) : s.loadPayload.fb i = s.fb i :=
  State.fb_fillPb hlegal _ i

/-- A PARSE_DATA that ends with `ERR = NONE` has taken its accepting outcome (42_parse.md R140). -/
theorem exec_parseData_of_err_eq_none {s t : State} (h : exec .parseData s = .next t) (herr : t.err = 0#4) :
    t = s.parsedData.loadPayload.setErr .none := by
  obtain ⟨-, h'⟩ | ⟨-, -, h'⟩ | ⟨-, -, h'⟩ := exec_parseData s
  · rw [exec_next_unique h h', State.err_setErr] at herr
    exact absurd herr (by decide)
  · rw [exec_next_unique h h', State.err_setErr] at herr
    exact absurd herr (by decide)
  · exact exec_next_unique h h'

/-- Settles O26: `MSGSEQ` is loaded from `LE32(FB, 2)`, and PARSE_DATA writes no byte of `FB`. -/
theorem parsedMsgSeqReadsAsItsFrameBytes : Obligations.ParsedMsgSeqReadsAsItsFrameBytes := by
  intro s t hlegal h herr
  obtain rfl := exec_parseData_of_err_eq_none h herr
  have hlegal' : s.parsedData.params.Legal := by rw [State.parsedData_params]; exact hlegal
  have hseq : (s.parsedData.loadPayload.setErr .none).msgSeq = s.le32 2 := by simp [State.frameMsgSeq]
  simp only [State.setErr_fb, State.fb_loadPayload hlegal', State.parsedData_fb, hseq]
  exact ⟨(s.extractLsb'_le32 2 (k := 0) (by decide)).symm, (s.extractLsb'_le32 2 (k := 1) (by decide)).symm,
    (s.extractLsb'_le32 2 (k := 2) (by decide)).symm, (s.extractLsb'_le32 2 (k := 3) (by decide)).symm⟩

end Sys2Proof.Machine
end

section
/-! The command word: the decoder accepts exactly the words of the opcode map, and what an illegal word written to
`CMD` does (30_encoding.md R80 to R83). -/

namespace Sys2Proof.Machine

open Sys2Proof Sys2Proof.Safety

/-! ### A word is its upper bits and its opcode -/

theorem upperOf_append_opcodeOf (w : Word) : upperOf w ++ opcodeOf w = w :=
  BitVec.extractLsb'_append_extractLsb' (w := 24) (len := 8) (x := w)

theorem word_eq_of_upper_opcode {v w : Word} (hup : upperOf v = upperOf w) (hop : opcodeOf v = opcodeOf w) :
    v = w := by
  rw [← upperOf_append_opcodeOf v, hup, hop, upperOf_append_opcodeOf]

/-- The bits above the opcode of every command's word are 0 (30_encoding.md R80, R81). -/
theorem upperOf_encode (i : Instr) : upperOf (encode i) = 0#24 := by
  cases i <;> rfl

/-- The map of R81 gives each opcode to one command. -/
theorem eq_opcodeOf_encode {op : Byte} {i : Instr} (h : decodeOpcode op = some i) : op = opcodeOf (encode i) := by
  unfold decodeOpcode at h
  split at h <;> cases h <;> exact BitVec.eq_of_toNat_eq ‹op.toNat = _›

/-! ### The words the decoder accepts, and those it rejects -/

theorem decode_eq_ok_iff (w : Word) (i : Instr) :
    decode w = .ok i ↔ upperOf w = 0#24 ∧ decodeOpcode (opcodeOf w) = some i := by
  unfold decode
  by_cases hup : upperOf w = 0#24
  · rw [if_pos hup]
    cases decodeOpcode (opcodeOf w) <;> simp [hup]
  · simp [hup]

/-- Settles O2: an accepted word has the upper bits and the opcode of its command's word, so it is that word. -/
theorem decodeAcceptsExactlyTheEncodedWords : Obligations.DecodeAcceptsExactlyTheEncodedWords := by
  intro w i
  constructor
  · intro hdec
    obtain ⟨hup, hop⟩ := (decode_eq_ok_iff w i).1 hdec
    exact word_eq_of_upper_opcode (hup.trans (upperOf_encode i).symm) (eq_opcodeOf_encode hop)
  · rintro rfl
    exact decode_encode i

/-- Settles O1: each word listed is the encoding of its command. -/
theorem tabledWordsDecodeToTheirCommands : Obligations.TabledWordsDecodeToTheirCommands :=
  ⟨decode_encode .nop, decode_encode .csum, decode_encode .verify, decode_encode .sealFrame,
    decode_encode .fmtData, decode_encode .fmtAck, decode_encode .parseData, decode_encode .parseAck,
    decode_encode .fragCount, decode_encode .fragSlice, decode_encode .clear⟩

/-- The opcodes of R81. -/
def assignedOpcodes : List Nat := [0x00, 0x01, 0x02, 0x03, 0x10, 0x11, 0x20, 0x21, 0x30, 0x31, 0xF0]

theorem encode_toNat_mem (i : Instr) : (encode i).toNat ∈ assignedOpcodes := by
  cases i <;> decide

theorem exists_encode_toNat {n : Nat} (h : n ∈ assignedOpcodes) : ∃ i, (encode i).toNat = n := by
  unfold assignedOpcodes at h
  fin_cases h
  exacts [⟨.nop, rfl⟩, ⟨.csum, rfl⟩, ⟨.verify, rfl⟩, ⟨.sealFrame, rfl⟩, ⟨.fmtData, rfl⟩, ⟨.fmtAck, rfl⟩,
    ⟨.parseData, rfl⟩, ⟨.parseAck, rfl⟩, ⟨.fragCount, rfl⟩, ⟨.fragSlice, rfl⟩, ⟨.clear, rfl⟩]

theorem exists_decode_ok_iff (w : Word) : (∃ i, decode w = .ok i) ↔ w.toNat ∈ assignedOpcodes := by
  constructor
  · rintro ⟨i, hdec⟩
    rw [(decodeAcceptsExactlyTheEncodedWords w i).1 hdec]
    exact encode_toNat_mem i
  · intro hmem
    obtain ⟨i, hi⟩ := exists_encode_toNat hmem
    exact ⟨i, (decodeAcceptsExactlyTheEncodedWords w i).2 (BitVec.eq_of_toNat_eq hi.symm)⟩

theorem exists_decode_error_iff (w : Word) : (∃ r, decode w = .error r) ↔ w.toNat ∉ assignedOpcodes := by
  rw [← exists_decode_ok_iff]
  cases decode w <;> simp

/-- Settles O3: the five ranges are the gaps between the assigned opcodes. -/
theorem illegalWordsAreThoseOfTheRule : Obligations.IllegalWordsAreThoseOfTheRule := by
  intro w
  rw [exists_decode_error_iff]
  simp only [assignedOpcodes, List.mem_cons, List.not_mem_nil, or_false]
  omega

/-! ### The step of an illegal word -/

/-- 30_encoding.md R82: the Write32 of an illegal word to `CMD` reports `ILLEGAL_CMD`. -/
theorem step_of_illegalWord {s : State} {w : Word} {e : DecodeReject} {rest : List Input} (hlegal : s.params.Legal)
    (hpend : s.pending = .access (.write32 Reg.cmd.offset w) :: rest) (hdec : decode w = .error e) :
    step s = .next ({ s with pending := rest, reply := .noData }.setErr .illegalCmd) := by
  rw [step_of_access hlegal hpend, performAccess_write32, if_pos rfl, runCommand_of_illegal hdec]; rfl

/-- Settles O6: neither kind of word is in the opcode map, and the step of an illegal word writes `ERR` alone. -/
theorem illegalWordChangesOnlyErr : Obligations.IllegalWordChangesOnlyErr := by
  intro s w rest hlegal hpend hillegal
  have hout : w.toNat ∉ assignedOpcodes := by
    simp only [assignedOpcodes, List.mem_cons, List.not_mem_nil, or_false] at hillegal ⊢
    omega
  obtain ⟨e, hdec⟩ := (exists_decode_error_iff w).2 hout
  exact ⟨_, step_of_illegalWord hlegal hpend hdec,
    ⟨State.ckOk_setErr _ _, State.hasTotal_setErr _ _, State.err_setErr _ _, State.statusReserved_setErr _ _⟩, rfl⟩

end Sys2Proof.Machine
end

section
/-! The sequence CHECK: what VERIFY leaves in the bit of `STATUS` that the host reads next (30_encoding.md R87;
40_checksum.md R104). -/

namespace Sys2Proof.Machine

open Sys2Proof Sys2Proof.Safety

/-- Bit 0 of a read `STATUS` is `CK_OK` (10_state.md R27). -/
theorem State.getLsbD_readReg_status (s : State) : (s.readReg .status).getLsbD 0 = s.ckOk := by
  simp [State.readReg, State.ckOk]

/-- VERIFY writes to `CK_OK` whether the frame is valid, and keeps the parameters and the inputs still to come
(40_checksum.md R104). -/
theorem exec_verify_ckOk (s : State) :
    ∃ t, exec .verify s = .next t ∧ (t.ckOk = true ↔ ChecksumValid s) ∧ t.params = s.params ∧
      t.pending = s.pending := by
  obtain ⟨hv, h⟩ | ⟨hv, h⟩ := exec_verify s
  · exact ⟨_, h, by simp [hv], rfl, rfl⟩
  · exact ⟨_, h, by simp [hv], rfl, rfl⟩

/-- Settles O47: the first step performs VERIFY, the second reads the `STATUS` it left. -/
theorem checkReadsTheValidityOfTheFrame : Obligations.CheckReadsTheValidityOfTheFrame := by
  intro s rest hlegal hpend
  obtain ⟨t, hverify, hck, hparams, hpend'⟩ :=
    exec_verify_ckOk { s with pending := .access (Line.rd .status).access :: rest, reply := .noData }
  have hlegal' : t.params.Legal := by rw [hparams]; exact hlegal
  refine ⟨t, _, t.readReg .status, (step_of_commandWord hlegal hpend (decode_encode .verify)).trans hverify,
    step_read32_offset (r := .status) hlegal' hpend', rfl, ?_⟩
  rw [State.getLsbD_readReg_status, hck]
  rfl

end Sys2Proof.Machine
end

section
/-! What a formatted frame depends on and what its fields are: FMT_DATA reads no more than its operands, and FMT_ACK
after PARSE_DATA acknowledges the frame just parsed (30_encoding.md R84, R87; 41_format.md R120, R121). -/

namespace Sys2Proof.Machine

open Sys2Proof Sys2Proof.Safety

/-! ### The operands of FMT_DATA -/

/-- The two states agree on what FMT_DATA reads: `TOTSIZE` for fragment 0 alone, and `PB` below `PLEN` alone
(30_encoding.md R84). -/
structure SameDataOperands (s r : State) : Prop where
  params : r.params = s.params
  msgSeq : r.msgSeq = s.msgSeq
  fragSeq : r.fragSeq = s.fragSeq
  plen : r.plen = s.plen
  totSize : s.fragSeq = 0#32 → r.totSize = s.totSize
  payload : ∀ j, j < s.plen.toNat → r.pb j = s.pb j

theorem frameCap_congr {s r : State} (hp : r.params = s.params) (seq : Nat) : frameCap r seq = frameCap s seq := by
  simp only [frameCap, hp]

theorem SameDataOperands.frameCap_eq {s r : State} (h : SameDataOperands s r) :
    frameCap r r.fragSeq.toNat = frameCap s s.fragSeq.toNat := by
  rw [h.fragSeq, frameCap_congr h.params]

/-- Each byte of the frame is payload below `PLEN`, the total size of a fragment 0, or a header byte. -/
theorem SameDataOperands.fb_dataBody {s r : State} (h : SameDataOperands s r) (hlegal : s.params.Legal)
    (hfits : s.plen.toNat ≤ frameCap s s.fragSeq.toNat) (k : Nat) : r.dataBody.fb k = s.dataBody.fb k := by
  have hlegal' : r.params.Legal := by rw [h.params]; exact hlegal
  have hfits' : r.plen.toNat ≤ frameCap r r.fragSeq.toNat := by
    rw [h.plen, h.frameCap_eq]; exact hfits
  rw [State.fb_dataBody hlegal hfits, State.fb_dataBody hlegal' hfits', h.fragSeq, h.plen]
  split
  case isTrue hpay => exact h.payload _ (by omega)
  split
  case isTrue htot => rw [h.totSize htot.1]
  case isFalse => rw [State.fb_putHeader hlegal, State.fb_putHeader hlegal', h.msgSeq, h.fragSeq]

/-- Sealing states with the same bytes gives the same checksum and the same bytes. -/
theorem State.sealFrame_congr {s r : State} (hF : 2 ≤ s.params.frameSize) (hp : r.params = s.params)
    (hf : ∀ k, r.fb k = s.fb k) :
    r.sealFrame.csumResult = s.sealFrame.csumResult ∧ ∀ k, r.sealFrame.fb k = s.sealFrame.fb k := by
  have hsum : r.csum = s.csum := State.csum_congr hp (fun i _ => hf i)
  refine ⟨by rw [State.sealFrame_csumResult, State.sealFrame_csumResult, hsum], fun k => ?_⟩
  rw [State.fb_sealFrame hF, State.fb_sealFrame (by rw [hp]; exact hF), hsum, hf]

/-- FMT_DATA of a `PLEN` above the capacity reports `PLEN_RANGE` (41_format.md R120). -/
theorem exec_fmtData_exceeds {s : State} (h : frameCap s s.fragSeq.toNat < s.plen.toNat) :
    exec .fmtData s = .next (s.setErr .plenRange) := by
  obtain ⟨-, h'⟩ | ⟨hfits, -⟩ := exec_fmtData s
  · exact h'
  · omega

/-- Settles O40: the length check reads only `FRAGSEQ` and `PLEN`, the frame only the operands. -/
theorem fmtDataIgnoresStalePayloadAndUnusedTotal : Obligations.FmtDataIgnoresStalePayloadAndUnusedTotal := by
  intro s r t u hlegal hparams hmsg hfrag hplen htot hpay ht hu
  have hsame : SameDataOperands s r := ⟨hparams, hmsg, hfrag, hplen, htot, hpay⟩
  obtain ⟨hlong, hs⟩ | ⟨hfits, hs⟩ := exec_fmtData s
  · have hr := exec_fmtData_exceeds (s := r) (by rw [hsame.frameCap_eq, hplen]; exact hlong)
    rw [exec_next_unique ht hs, exec_next_unique hu hr]
    exact ⟨by simp, fun herr => by simp [ErrCode.code] at herr⟩
  · have hr := exec_fmtData_fits (s := r) (by rw [hsame.frameCap_eq, hplen]; exact hfits)
    have hF : 2 ≤ s.dataBody.params.frameSize := by rw [State.dataBody_params]; have := hlegal.1; omega
    obtain ⟨hsum, hfb⟩ := State.sealFrame_congr (r := r.dataBody) hF (by simp [hparams])
      (hsame.fb_dataBody hlegal hfits)
    rw [exec_next_unique ht hs, exec_next_unique hu hr]
    refine ⟨by simp, fun _ => ⟨?_, fun k => ?_⟩⟩
    · rw [State.setErr_csumResult, State.setErr_csumResult, hsum]
    · rw [State.setErr_fb, State.setErr_fb, hfb]

/-! ### The frame FMT_ACK builds -/

theorem State.le32_sealFrame {s : State} (hF : 2 ≤ s.params.frameSize) {a : Nat} (ha : 2 ≤ a) :
    s.sealFrame.le32 a = s.le32 a :=
  State.le32_congr (fun i hi _ => by rw [State.fb_sealFrame hF, if_neg (by omega), if_neg (by omega)])

theorem State.le32_putHeader_msgSeq {s : State} (hlegal : s.params.Legal) (len : Byte) :
    (s.putHeader len).le32 2 = s.msgSeq := by
  apply State.le32_of_bytes <;> simp [State.fb_putHeader hlegal]

theorem State.le32_putHeader_fragSeq {s : State} (hlegal : s.params.Legal) (len : Byte) :
    (s.putHeader len).le32 6 = s.fragSeq := by
  apply State.le32_of_bytes <;> simp [State.fb_putHeader hlegal]

/-- From its payload length on, the header of a frame with no payload is 0 (30_encoding.md R73). -/
theorem State.fb_putHeader_zero {s : State} (hlegal : s.params.Legal) {k : Nat} (hk : 10 ≤ k) :
    (s.putHeader 0#8).fb k = 0#8 := by
  obtain rfl | hlt := Nat.eq_or_lt_of_le hk
  · rw [State.fb_putHeader hlegal, if_pos rfl]
  · exact State.fb_putHeader_rest hlegal 0#8 hlt

theorem onlyFb_putHeader_sealFrame {s : State} (hlegal : s.params.Legal) (len : Byte) :
    OnlyFbWritten s (s.putHeader len).sealFrame :=
  onlyFb_trans (by simp) (onlyFb_putHeader hlegal len) (onlyFb_sealFrame (by simpa using hlegal))

/-- The ack frame of 30_encoding.md R73: the two sequence numbers, zeros and a valid checksum; `PB` is not written
(41_format.md R121). -/
theorem exec_fmtAck_frame {s : State} (hlegal : s.params.Legal) :
    ∃ u, exec .fmtAck s = .next u ∧ u.le32 2 = s.msgSeq ∧ u.le32 6 = s.fragSeq ∧ (∀ i, 10 ≤ i → u.fb i = 0#8) ∧
      ChecksumValid u ∧ ∀ j, u.pb j = s.pb j := by
  have hF : 2 ≤ (s.putHeader 0#8).params.frameSize := by rw [State.putHeader_params]; have := hlegal.1; omega
  refine ⟨_, exec_fmtAck s, ?_, ?_, fun i hi => ?_, ?_, fun j => ?_⟩
  · rw [State.setErr_le32, State.le32_sealFrame hF (by decide), State.le32_putHeader_msgSeq hlegal]
  · rw [State.setErr_le32, State.le32_sealFrame hF (by decide), State.le32_putHeader_fragSeq hlegal]
  · rw [State.setErr_fb, State.fb_sealFrame hF, if_neg (by omega), if_neg (by omega), State.fb_putHeader_zero hlegal hi]
  · rw [← State.frameValid_iff, State.setErr_frameValid, State.frameValid_sealFrame hF]
  · rw [State.setErr_pb]
    exact State.pb_of_outside hlegal (by simp) (onlyFb_putHeader_sealFrame hlegal 0#8) j

/-- A PARSE_DATA that ends with `CK_OK = 1`, MALFORMED or not, has loaded the sequence numbers of the frame
(42_parse.md R140; 60_exceptions.md R203). -/
theorem exec_parseData_of_ckOk {s t : State} (h : exec .parseData s = .next t) (hck : t.ckOk = true) :
    t.params = s.params ∧ t.msgSeq = s.frameMsgSeq ∧ t.fragSeq = s.frameFragSeq := by
  obtain ⟨-, h'⟩ | ⟨-, -, h'⟩ | ⟨-, -, h'⟩ := exec_parseData s <;> obtain rfl := exec_next_unique h h'
  · simp at hck
  · simp
  · simp

/-- Settles O46: FMT_ACK writes the sequence numbers that PARSE_DATA has loaded. -/
theorem ackReplyAcknowledgesTheParsedFrame : Obligations.AckReplyAcknowledgesTheParsedFrame := by
  intro s t hlegal hparse hck
  obtain ⟨hparams, hmsg, hfrag⟩ := exec_parseData_of_ckOk hparse hck
  obtain ⟨u, hu, hmsg', hfrag', hzero, hvalid, hpb⟩ := exec_fmtAck_frame (s := t) (by rw [hparams]; exact hlegal)
  refine ⟨u, hu, ?_, ?_, hzero, hvalid, hpb⟩
  · rw [← State.le32_eq_LE32At, ← State.le32_eq_LE32At, hmsg', hmsg, State.frameMsgSeq]
  · rw [← State.le32_eq_LE32At, ← State.le32_eq_LE32At, hfrag', hfrag, State.frameFragSeq]

end Sys2Proof.Machine
end

section
/-! Which registers and which buffers each command may change (30_encoding.md R84). -/

namespace Sys2Proof.Machine

open Sys2Proof Sys2Proof.Safety

/-! ### Registers -/

/-- What the transition of command `i` from `s` to `t` may do to the registers other than `STATUS`: the column
"writes" of 30_encoding.md R84, register by register. -/
def RegisterWritesAllowed (i : Instr) (s t : State) : Prop :=
  (t.csumResult ≠ s.csumResult →
    i ∈ [Instr.csum, .verify, .sealFrame, .fmtData, .fmtAck, .parseData, .parseAck, .clear]) ∧
  (t.msgSeq ≠ s.msgSeq ∨ t.fragSeq ≠ s.fragSeq ∨ t.plen ≠ s.plen → i ∈ [Instr.parseData, .parseAck, .clear]) ∧
  (t.totSize ≠ s.totSize → i ∈ [Instr.parseData, .clear]) ∧
  (t.msgLen ≠ s.msgLen ∨ t.fragIdx ≠ s.fragIdx → i = .clear) ∧
  (t.fragCnt ≠ s.fragCnt → i ∈ [Instr.fragCount, .fragSlice, .clear]) ∧
  (t.sliceOff ≠ s.sliceOff ∨ t.sliceLen ≠ s.sliceLen → i ∈ [Instr.fragSlice, .clear])

/-- Every outcome of every command keeps to the registers of its row. -/
theorem exec_registerWritesAllowed (i : Instr) (s : State) :
    ∃ t, exec i s = .next t ∧ RegisterWritesAllowed i s t := by
  cases i with
  | nop => exact ⟨_, exec_nop s, by simp [RegisterWritesAllowed]⟩
  | csum => exact ⟨_, exec_csum s, by simp [RegisterWritesAllowed]⟩
  | verify => obtain ⟨-, h⟩ | ⟨-, h⟩ := exec_verify s <;> exact ⟨_, h, by simp [RegisterWritesAllowed]⟩
  | sealFrame => exact ⟨_, exec_seal s, by simp [RegisterWritesAllowed]⟩
  | fmtData => obtain ⟨-, h⟩ | ⟨-, h⟩ := exec_fmtData s <;> exact ⟨_, h, by simp [RegisterWritesAllowed]⟩
  | fmtAck => exact ⟨_, exec_fmtAck s, by simp [RegisterWritesAllowed]⟩
  | parseData =>
    obtain ⟨-, h⟩ | ⟨-, -, h⟩ | ⟨-, -, h⟩ := exec_parseData s <;> exact ⟨_, h, by simp [RegisterWritesAllowed]⟩
  | parseAck =>
    obtain ⟨-, h⟩ | ⟨-, -, h⟩ | ⟨-, -, h⟩ := exec_parseAck s <;> exact ⟨_, h, by simp [RegisterWritesAllowed]⟩
  | fragCount => obtain ⟨-, h⟩ | ⟨-, h⟩ := exec_fragCount s <;> exact ⟨_, h, by simp [RegisterWritesAllowed]⟩
  | fragSlice =>
    obtain ⟨-, h⟩ | ⟨-, -, h⟩ | ⟨-, -, h⟩ := exec_fragSlice s <;> exact ⟨_, h, by simp [RegisterWritesAllowed]⟩
  | clear => exact ⟨_, exec_clear s, by simp [RegisterWritesAllowed]⟩

/-! ### Buffers -/

/-- What the transition of command `i` from `s` to `t` may do to the memory, and in a legal instance to each buffer:
the column "writes" of 30_encoding.md R84. -/
def BufferWritesAllowed (i : Instr) (s t : State) : Prop :=
  (t.mem ≠ s.mem → i ∈ [Instr.sealFrame, .fmtData, .fmtAck, .parseData, .clear]) ∧
  (s.params.Legal → (∃ k, t.fb k ≠ s.fb k) → i ∈ [Instr.sealFrame, .fmtData, .fmtAck, .clear]) ∧
  (s.params.Legal → (∃ k, 2 ≤ k ∧ t.fb k ≠ s.fb k) → i ∈ [Instr.fmtData, .fmtAck, .clear]) ∧
  (s.params.Legal → (∃ j, t.pb j ≠ s.pb j) → i ∈ [Instr.parseData, .clear])

/-- Any command may leave the memory as it was. -/
theorem bufferWritesAllowed_of_mem_eq {i : Instr} {s t : State} (hp : t.params = s.params) (hm : t.mem = s.mem) :
    BufferWritesAllowed i s t :=
  ⟨fun h => absurd hm h, fun _ ⟨k, hk⟩ => absurd (State.fb_congr hp hm k) hk,
    fun _ ⟨k, _, hk⟩ => absurd (State.fb_congr hp hm k) hk, fun _ ⟨j, hj⟩ => absurd (State.pb_congr hp hm j) hj⟩

theorem onlyFb_setErr {s t : State} (h : OnlyFbWritten s t) (c : ErrCode) : OnlyFbWritten s (t.setErr c) := h

/-- The formatters may write every byte of `FB`, and none of `PB` (41_format.md R120, R121). -/
theorem bufferWritesAllowed_of_onlyFb {i : Instr} {s t : State} (hi : i ∈ [Instr.fmtData, .fmtAck])
    (hp : t.params = s.params) (ht : s.params.Legal → OnlyFbWritten s t) : BufferWritesAllowed i s t := by
  obtain rfl | rfl : i = .fmtData ∨ i = .fmtAck := by simpa using hi
  all_goals exact ⟨fun _ => by decide, fun _ _ => by decide, fun _ _ => by decide,
    fun hlegal ⟨j, hj⟩ => absurd (State.pb_of_outside hlegal hp (ht hlegal) j) hj⟩

/-- SEAL writes the stored checksum alone (40_checksum.md R105). -/
theorem bufferWritesAllowed_sealFrame (s : State) : BufferWritesAllowed .sealFrame s (s.sealFrame.setErr .none) := by
  refine ⟨fun _ => by decide, fun _ _ => by decide, fun hlegal ⟨k, hk2, hk⟩ => absurd ?_ hk,
    fun hlegal ⟨j, hj⟩ => absurd (State.pb_of_outside hlegal (by simp) (onlyFb_sealFrame hlegal) j) hj⟩
  have hF := hlegal.1
  rw [State.setErr_fb, State.fb_sealFrame (by omega), if_neg (by omega), if_neg (by omega)]

/-- PARSE_DATA unpacks into `PB` and writes no byte of `FB` (42_parse.md R140). -/
theorem bufferWritesAllowed_parseData (s : State) :
    BufferWritesAllowed .parseData s (s.parsedData.loadPayload.setErr .none) := by
  have hfb (hlegal : s.params.Legal) (k : Nat) : (s.parsedData.loadPayload.setErr .none).fb k = s.fb k := by
    rw [State.setErr_fb, State.fb_loadPayload (by rw [State.parsedData_params]; exact hlegal), State.parsedData_fb]
  exact ⟨fun _ => by decide, fun hlegal ⟨k, hk⟩ => absurd (hfb hlegal k) hk,
    fun hlegal ⟨k, _, hk⟩ => absurd (hfb hlegal k) hk, fun _ _ => by decide⟩

/-- CLEAR may write every byte of both buffers (44_control.md R181). -/
theorem bufferWritesAllowed_clear (s t : State) : BufferWritesAllowed .clear s t :=
  ⟨fun _ => by decide, fun _ _ => by decide, fun _ _ => by decide, fun _ _ => by decide⟩

theorem onlyFb_dataBody_sealFrame {s : State} (hlegal : s.params.Legal)
    (hfits : s.plen.toNat ≤ frameCap s s.fragSeq.toNat) : OnlyFbWritten s s.dataBody.sealFrame :=
  onlyFb_trans (by simp) (onlyFb_dataBody hlegal hfits) (onlyFb_sealFrame (by simpa using hlegal))

/-- Every outcome of every command keeps to the buffers of its row. -/
theorem exec_bufferWritesAllowed (i : Instr) (s : State) :
    ∃ t, exec i s = .next t ∧ BufferWritesAllowed i s t := by
  cases i with
  | nop => exact ⟨_, exec_nop s, bufferWritesAllowed_of_mem_eq rfl rfl⟩
  | csum => exact ⟨_, exec_csum s, bufferWritesAllowed_of_mem_eq rfl rfl⟩
  | verify => obtain ⟨-, h⟩ | ⟨-, h⟩ := exec_verify s <;> exact ⟨_, h, bufferWritesAllowed_of_mem_eq rfl rfl⟩
  | sealFrame => exact ⟨_, exec_seal s, bufferWritesAllowed_sealFrame s⟩
  | fmtData =>
    obtain ⟨-, h⟩ | ⟨hfits, h⟩ := exec_fmtData s
    · exact ⟨_, h, bufferWritesAllowed_of_mem_eq rfl rfl⟩
    · exact ⟨_, h, bufferWritesAllowed_of_onlyFb (by decide) (by simp)
        (fun hlegal => onlyFb_setErr (onlyFb_dataBody_sealFrame hlegal hfits) _)⟩
  | fmtAck =>
    exact ⟨_, exec_fmtAck s, bufferWritesAllowed_of_onlyFb (by decide) (by simp)
      (fun hlegal => onlyFb_setErr (onlyFb_putHeader_sealFrame hlegal 0#8) _)⟩
  | parseData =>
    obtain ⟨-, h⟩ | ⟨-, -, h⟩ | ⟨-, -, h⟩ := exec_parseData s
    · exact ⟨_, h, bufferWritesAllowed_of_mem_eq rfl rfl⟩
    · exact ⟨_, h, bufferWritesAllowed_of_mem_eq (by simp) (by simp)⟩
    · exact ⟨_, h, bufferWritesAllowed_parseData s⟩
  | parseAck =>
    obtain ⟨-, h⟩ | ⟨-, -, h⟩ | ⟨-, -, h⟩ := exec_parseAck s <;>
      exact ⟨_, h, bufferWritesAllowed_of_mem_eq rfl rfl⟩
  | fragCount => obtain ⟨-, h⟩ | ⟨-, h⟩ := exec_fragCount s <;> exact ⟨_, h, bufferWritesAllowed_of_mem_eq rfl rfl⟩
  | fragSlice =>
    obtain ⟨-, h⟩ | ⟨-, -, h⟩ | ⟨-, -, h⟩ := exec_fragSlice s <;>
      exact ⟨_, h, bufferWritesAllowed_of_mem_eq rfl rfl⟩
  | clear => exact ⟨_, exec_clear s, bufferWritesAllowed_clear s _⟩

/-- Settles O59: the one next state of the command is the one that keeps to the registers and buffers of its row. -/
theorem commandsWriteOnlyTheirOperands : Obligations.CommandsWriteOnlyTheirOperands := by
  intro i s t h
  obtain ⟨u, hu, hcsum, hheader, htot, hmsg, hcount, hslice⟩ := exec_registerWritesAllowed i s
  obtain ⟨v, hv, hbuffers⟩ := exec_bufferWritesAllowed i s
  obtain rfl := exec_next_unique h hu
  obtain rfl := exec_next_unique h hv
  exact ⟨hcsum, hheader, htot, hmsg, hcount, hslice, hbuffers⟩

end Sys2Proof.Machine
end

section
/-! What CSUM, VERIFY and SEAL leave: the sum they record, the fields of `STATUS`, and the two bytes that SEAL
writes, which do not enter the sum (40_checksum.md R103 to R105, R109). -/

namespace Sys2Proof.Machine

open Sys2Proof Sys2Proof.Safety

/-- Settles O27: CSUM records the sum and ends without an error. -/
theorem csumWritesTheCoveredSum : Obligations.CsumWritesTheCoveredSum := by
  intro s
  exact ⟨_, exec_csum s, s.csum_toNat, by simp [StatusAfter, ErrCode.code], rfl⟩

/-- Settles O28: each outcome of VERIFY records the sum, and the two premises are those of its outcomes. -/
theorem verifyComparesSumAndStoredChecksum : Obligations.VerifyComparesSumAndStoredChecksum := by
  intro s
  obtain ⟨hv, h⟩ | ⟨hv, h⟩ := exec_verify s
  · exact ⟨_, h, s.csum_toNat, rfl, fun _ => by simp [StatusAfter, ErrCode.code], fun hne => absurd hv hne⟩
  · exact ⟨_, h, s.csum_toNat, rfl, fun heq => absurd heq hv, fun _ => by simp [StatusAfter, ErrCode.code]⟩

/-! ### SEAL -/

/-- SEAL writes the memory and `CSUM_RESULT` (40_checksum.md R105). -/
theorem State.sealFrame_frame (s : State) :
    s.sealFrame = { s with mem := s.sealFrame.mem, csumResult := s.csum } := by
  ext1 <;> simp

/-- Settles O29: SEAL is `putLE16` of the sum at offset 0. -/
theorem sealStoresTheChecksum : Obligations.SealStoresTheChecksum := by
  intro s hlegal
  have hF : 2 ≤ s.params.frameSize := by have := hlegal.1; omega
  refine ⟨_, exec_seal s, s.csum_toNat, ?_, ?_, fun a h0 h1 => ?_, by simp [StatusAfter, ErrCode.code], ?_⟩
  · rw [State.setErr_fb, State.fb_sealFrame hF, if_pos rfl]; rfl
  · rw [State.setErr_fb, State.fb_sealFrame hF, if_neg (by decide), if_pos rfl]; rfl
  · exact s.read_putLE16_outside 0 s.csum a h0 h1
  · rw [State.setErr, State.sealFrame_frame]

/-! ### Sealing a sealed frame -/

/-- Writing to an address what it reads as leaves a canonical memory as it is (log 8). -/
theorem Memory.write_read_self {m : Memory} (hm : Memory.wf m) (a : Nat) : m.write a (m.read a) = m := by
  refine Memory.ext_of_read (Memory.wf_write hm a _) hm (fun c => ?_)
  rw [Memory.read_write]
  split
  case isTrue h => rw [h]
  case isFalse => rfl

theorem State.setFb_fb_self {s : State} (hm : Memory.wf s.mem) (i : Nat) : s.setFb i (s.fb i) = s := by
  unfold State.setFb State.fb
  split
  · rw [Memory.write_read_self hm]
  · rfl

theorem State.putLE16_le16_self {s : State} (hm : Memory.wf s.mem) (a : Nat) : s.putLE16 a (s.le16 a) = s := by
  have hlo : (s.le16 a).extractLsb' 0 8 = s.fb a := BitVec.extractLsb'_append_eq_right
  have hhi : (s.le16 a).extractLsb' 8 8 = s.fb (a + 1) := BitVec.extractLsb'_append_eq_left
  rw [State.putLE16, hlo, hhi, State.setFb_fb_self hm, State.setFb_fb_self hm]

/-- SEAL changes nothing where the sum is already stored and recorded. -/
theorem State.sealFrame_eq_self {s : State} (hm : Memory.wf s.mem) (hstored : s.stored = s.csum)
    (hresult : s.csumResult = s.csum) : s.sealFrame = s := by
  have hput : s.putLE16 0 s.csum = s := by rw [← hstored, State.stored, State.putLE16_le16_self hm]
  rw [State.sealFrame, hput, ← hresult]

theorem State.setErr_setErr (s : State) (c : ErrCode) : (s.setErr c).setErr c = s.setErr c := by
  have hstatus : ((s.setErr c).setErr c).status = (s.setErr c).status := by apply State.status_ext <;> simp
  ext1 <;> simp [hstatus]

/-- Settles O30: the covered words start at `FB[2]`; the second SEAL stores and records the sum of the first. -/
theorem sealIsIdempotentAndMakesTheFrameValid : Obligations.SealIsIdempotentAndMakesTheFrameValid := by
  refine ⟨fun s t => State.csum_congr, fun s t hsound h => ?_⟩
  have hF : 2 ≤ s.params.frameSize := by have := hsound.legal.1; omega
  have hmem : MemOk s.sealFrame := memOk_sealFrame ⟨hsound.canonical, hsound.backed⟩
  have hcsum : (s.sealFrame.setErr .none).csum = s.csum := by rw [State.setErr_csum, State.csum_sealFrame hF]
  obtain rfl := exec_next_unique h (exec_seal s)
  refine ⟨?_, ?_⟩
  · rw [← State.frameValid_iff, State.setErr_frameValid, State.frameValid_sealFrame hF]
  · have hagain : (s.sealFrame.setErr .none).sealFrame = s.sealFrame.setErr .none :=
      State.sealFrame_eq_self hmem.1 ((State.stored_sealFrame hF).trans hcsum.symm) hcsum.symm
    rw [exec_seal, hagain, State.setErr_setErr]

end Sys2Proof.Machine
end

section
/-! The detection laws: what a change of words does to the sum, and when VERIFY notices it (40_checksum.md R106 to
R108). -/

namespace Sys2Proof.Machine

open Sys2Proof Sys2Proof.Safety

/-- VERIFY of an invalid frame clears `CK_OK` and reports `BAD_CHECKSUM` (40_checksum.md R104). -/
theorem exec_verify_rejects {s : State} (hv : ¬ ChecksumValid s) :
    ∃ u, exec .verify s = .next u ∧ u.ckOk = false ∧ u.err = 2#4 :=
  ⟨_, exec_verify_invalid hv, by simp, by simp [ErrCode.code]⟩

/-! ### The change of one word -/

/-- The covered word `k` in the offsets of 40_checksum.md R100. -/
theorem LE16At_covered (s : State) (k : Nat) :
    LE16At s (2 + 2 * k) = (s.fb (2 + 2 * k)).toNat + 256 * (s.fb (3 + 2 * k)).toNat := by
  rw [LE16At, show 2 + 2 * k + 1 = 3 + 2 * k by omega]

/-- A word determines its two bytes. -/
theorem fb_eq_of_LE16At_eq {s t : State} {a : Nat} (h : LE16At t a = LE16At s a) :
    t.fb a = s.fb a ∧ t.fb (a + 1) = s.fb (a + 1) := by
  unfold LE16At at h
  have := (s.fb a).isLt
  have := (t.fb a).isLt
  exact ⟨BitVec.eq_of_toNat_eq (by omega), BitVec.eq_of_toNat_eq (by omega)⟩

/-- Sums that differ by `y - x` give checksums that differ by `y - x` modulo 2^16. -/
theorem csum_eq_add_sub {s t : State} {x y : Nat} (h : coveredSum t + x = coveredSum s + y) :
    t.csum = s.csum + BitVec.ofNat 16 y - BitVec.ofNat 16 x := by
  rw [BitVec.eq_sub_iff_add_eq, State.csum_eq_ofNat, State.csum_eq_ofNat, ← BitVec.ofNat_add, ← BitVec.ofNat_add, h]

/-- A change confined to one word is a change of that word's value, and not beyond the end of the frame. -/
theorem LE16At_ne_of_changed {s t : State} {a : Nat} (hp : t.params = s.params)
    (h : ∀ i, i ≠ a → i ≠ a + 1 → t.fb i = s.fb i) (hne : ∃ i, t.fb i ≠ s.fb i) :
    LE16At t a ≠ LE16At s a ∧ a < s.params.frameSize := by
  obtain ⟨i, hi⟩ := hne
  have hword : i = a ∨ i = a + 1 := by
    by_contra hout
    obtain ⟨h0, h1⟩ := not_or.1 hout
    exact hi (h i h0 h1)
  refine ⟨fun heq => ?_, ?_⟩
  · obtain ⟨hlo, hhi⟩ := fb_eq_of_LE16At_eq heq
    obtain rfl | rfl := hword
    · exact hi hlo
    · exact hi hhi
  · by_contra hend
    exact hi (by rw [t.fb_of_le (by rw [hp]; omega), s.fb_of_le (by omega)])

/-- 40_checksum.md R106: a valid frame is not valid after a change confined to one word, which is the stored
checksum for `m = 0` and the covered word `m - 1` otherwise. -/
theorem not_checksumValid_of_one_word_changed {s t : State} {m : Nat} (hp : t.params = s.params)
    (hv : ChecksumValid s) (h : ∀ i, i ≠ 2 * m → i ≠ 2 * m + 1 → t.fb i = s.fb i) (hne : ∃ i, t.fb i ≠ s.fb i) :
    ¬ ChecksumValid t := by
  obtain ⟨hword, hend⟩ := LE16At_ne_of_changed hp h hne
  unfold ChecksumValid at *
  cases m with
  | zero =>
    have hsum : coveredSum t = coveredSum s := coveredSum_congr hp (fun i hi => h i (by omega) (by omega))
    rw [hsum, hv]
    exact hword.symm
  | succ k =>
    rw [show 2 * (k + 1) = 2 + 2 * k by omega] at h hword hend
    have hsum := coveredSum_change hp hend (fun i _ h0 h1 => h i h0 (by omega))
    have hstored : LE16At t 0 = LE16At s 0 := by apply LE16At_congr <;> apply h <;> omega
    have := LE16At_lt s (2 + 2 * k)
    have := LE16At_lt t (2 + 2 * k)
    omega

/-- Settles O31: both parts are about the sum with one word exchanged for another. -/
theorem oneWordChangesShiftTheChecksumAndAreDetected : Obligations.OneWordChangesShiftTheChecksumAndAreDetected :=
  ⟨fun _ _ _ hp hk h => csum_eq_add_sub (coveredSum_change hp hk (fun i _ => h i)),
    fun _ _ _ hp hv h hne => exec_verify_rejects (not_checksumValid_of_one_word_changed hp hv h hne)⟩

/-! ### Single-bit flips -/

/-- Where `x` and `y` share no bit, their exclusive or is their sum. -/
theorem xor_eq_add_of_and_eq_zero {w : Nat} {x y : BitVec w} (h : x &&& y = 0#w) : x ^^^ y = x + y := by
  rw [BitVec.add_eq_or_of_and_eq_zero x y h]
  apply BitVec.eq_of_getLsbD_eq
  intro i hi
  have hbit := congrArg (BitVec.getLsbD · i) h
  simp only [BitVec.getLsbD_and, BitVec.getLsbD_zero] at hbit
  rw [BitVec.getLsbD_xor, BitVec.getLsbD_or]
  cases hx : x.getLsbD i <;> simp_all

/-- Setting a bit that is 0 adds its weight. -/
theorem toNat_flip_of_clear {b : Byte} {j : Nat} (hj : j < 8) (h : b.getLsbD j = false) :
    (b ^^^ 1#8 <<< j).toNat = b.toNat + 2 ^ j := by
  rw [← BitVec.twoPow_eq]
  have hand : b &&& BitVec.twoPow 8 j = 0#8 := by rw [BitVec.and_twoPow, h]; rfl
  rw [xor_eq_add_of_and_eq_zero hand, BitVec.toNat_add_of_and_eq_zero hand, BitVec.toNat_twoPow_of_lt hj]

/-- A flip of bit `j` adds or subtracts `2^j`. -/
theorem toNat_flip (b : Byte) {j : Nat} (hj : j < 8) :
    (b ^^^ 1#8 <<< j).toNat = b.toNat + 2 ^ j ∨ b.toNat = (b ^^^ 1#8 <<< j).toNat + 2 ^ j := by
  cases h : b.getLsbD j with
  | false => exact .inl (toNat_flip_of_clear hj h)
  | true =>
    right
    have hclear : (b ^^^ 1#8 <<< j).getLsbD j = false := by simp [h, hj]
    rw [← toNat_flip_of_clear hj hclear, BitVec.xor_assoc, BitVec.xor_self, BitVec.xor_zero]

/-- The frame with bit `j` of `FB[i]` flipped. -/
def State.flipBit (s : State) (i j : Nat) : State := s.setFb i (s.fb i ^^^ 1#8 <<< j)

@[simp] theorem State.flipBit_params (s : State) (i j : Nat) : (s.flipBit i j).params = s.params :=
  s.setFb_params i _

theorem State.fb_flipBit {s : State} {i : Nat} (hi : i < s.params.frameSize) (j k : Nat) :
    (s.flipBit i j).fb k = if k = i then s.fb i ^^^ 1#8 <<< j else s.fb k := by
  simp only [State.flipBit, State.fb_setFb, hi, and_true]

/-- A flip in either byte of a word changes the word by a power of two below 2^16 (40_checksum.md R107). -/
theorem LE16At_flipBit {s : State} {i j a : Nat} (hi : i < s.params.frameSize) (hj : j < 8)
    (ha : i = a ∨ i = a + 1) :
    ∃ e, e < 16 ∧ (LE16At (s.flipBit i j) a = LE16At s a + 2 ^ e ∨
      LE16At s a = LE16At (s.flipBit i j) a + 2 ^ e) := by
  have hflip := toNat_flip (s.fb i) hj
  obtain rfl | rfl := ha
  · refine ⟨j, by omega, ?_⟩
    rw [LE16At, State.fb_flipBit hi, State.fb_flipBit hi, if_pos rfl, if_neg (by omega), LE16At]
    omega
  · refine ⟨j + 8, by omega, ?_⟩
    rw [LE16At, State.fb_flipBit hi, State.fb_flipBit hi, if_neg (by omega), if_pos rfl, LE16At, pow_add]
    omega

/-- A flip in a covered word changes the checksum by plus or minus a power of two. -/
theorem csum_flipBit_covered {s : State} {i j : Nat} (hi : i < s.params.frameSize) (hj : j < 8) (h2 : 2 ≤ i) :
    ∃ e, e < 16 ∧ ((s.flipBit i j).csum = s.csum + BitVec.ofNat 16 (2 ^ e) ∨
      (s.flipBit i j).csum = s.csum - BitVec.ofNat 16 (2 ^ e)) := by
  obtain ⟨k, hk⟩ : ∃ k, i = 2 + 2 * k ∨ i = 2 + 2 * k + 1 := ⟨(i - 2) / 2, by omega⟩
  have hsum : coveredSum (s.flipBit i j) + LE16At s (2 + 2 * k) =
      coveredSum s + LE16At (s.flipBit i j) (2 + 2 * k) :=
    coveredSum_change (by simp) (by omega)
      (fun l _ _ _ => by rw [State.fb_flipBit hi, if_neg (by omega)])
  obtain ⟨e, he, hplus | hminus⟩ := LE16At_flipBit hi hj hk
  · refine ⟨e, he, .inl ?_⟩
    simpa using csum_eq_add_sub (x := 0) (y := 2 ^ e) (by omega)
  · refine ⟨e, he, .inr ?_⟩
    simpa using csum_eq_add_sub (x := 2 ^ e) (y := 0) (by omega)

/-- A flip in the stored checksum changes that and not the sum. -/
theorem csum_flipBit_stored {s : State} {i j : Nat} (hi : i < s.params.frameSize) (hj : j < 8) (h2 : i < 2) :
    (s.flipBit i j).csum = s.csum ∧ LE16At (s.flipBit i j) 0 ≠ LE16At s 0 := by
  refine ⟨State.csum_congr (by simp) (fun l hl => by rw [State.fb_flipBit hi, if_neg (by omega)]), ?_⟩
  obtain ⟨e, -, hchange⟩ := LE16At_flipBit (a := 0) hi hj (by omega)
  have := Nat.two_pow_pos e
  omega

/-- No flip of a bit of a valid frame leaves it valid: it changes one word. -/
theorem not_checksumValid_flipBit {s : State} {i j : Nat} (hi : i < s.params.frameSize) (hj : j < 8)
    (hv : ChecksumValid s) : ¬ ChecksumValid (s.flipBit i j) := by
  refine not_checksumValid_of_one_word_changed (m := i / 2) (by simp) hv
    (fun l h0 h1 => by rw [State.fb_flipBit hi, if_neg (by omega)]) ⟨i, fun heq => ?_⟩
  rw [State.fb_flipBit hi, if_pos rfl] at heq
  have hflip := toNat_flip (s.fb i) hj
  rw [heq] at hflip
  have := Nat.two_pow_pos j
  omega

/-! ### Exchanging the two bytes of a word -/

/-- The frame with the two bytes of covered word `k` exchanged. -/
def State.swapBytes (s : State) (k : Nat) : State :=
  (s.setFb (2 + 2 * k) (s.fb (3 + 2 * k))).setFb (3 + 2 * k) (s.fb (2 + 2 * k))

@[simp] theorem State.swapBytes_params (s : State) (k : Nat) : (s.swapBytes k).params = s.params := by
  simp [State.swapBytes]

theorem State.fb_swapBytes {s : State} {k : Nat} (hk : 3 + 2 * k < s.params.frameSize) (l : Nat) :
    (s.swapBytes k).fb l =
      if l = 3 + 2 * k then s.fb (2 + 2 * k) else if l = 2 + 2 * k then s.fb (3 + 2 * k) else s.fb l := by
  have hk' : 2 + 2 * k < s.params.frameSize := by omega
  simp only [State.swapBytes, State.fb_setFb, State.setFb_params, hk, hk', and_true]

/-- 40_checksum.md R107: with `b` at the lower and `a` at the higher offset, the exchange adds `255 * (b - a)`. -/
theorem csum_swapBytes {s : State} {k : Nat} (hk : 3 + 2 * k < s.params.frameSize) :
    (s.swapBytes k).csum =
      s.csum + 255#16 * ((s.fb (2 + 2 * k)).setWidth 16 - (s.fb (3 + 2 * k)).setWidth 16) := by
  have hsum : coveredSum (s.swapBytes k) + LE16At s (2 + 2 * k) =
      coveredSum s + LE16At (s.swapBytes k) (2 + 2 * k) :=
    coveredSum_change (by simp) (by omega)
      (fun l _ h0 h1 => by rw [State.fb_swapBytes hk, if_neg h1, if_neg h0])
  have hnew : LE16At (s.swapBytes k) (2 + 2 * k) = (s.fb (3 + 2 * k)).toNat + 256 * (s.fb (2 + 2 * k)).toNat := by
    rw [LE16At_covered, State.fb_swapBytes hk, State.fb_swapBytes hk, if_neg (by omega), if_pos rfl, if_pos rfl]
  have hdiff : coveredSum (s.swapBytes k) + 255 * (s.fb (3 + 2 * k)).toNat =
      coveredSum s + 255 * (s.fb (2 + 2 * k)).toNat := by
    rw [hnew, LE16At_covered] at hsum; omega
  rw [csum_eq_add_sub hdiff, BitVec.ofNat_mul, BitVec.ofNat_mul, BitVec.ofNat_toNat, BitVec.ofNat_toNat,
    add_sub_assoc, BitVec.mul_sub]

theorem not_checksumValid_swapBytes {s : State} {k : Nat} (hk : 3 + 2 * k < s.params.frameSize)
    (hv : ChecksumValid s) (hne : s.fb (3 + 2 * k) ≠ s.fb (2 + 2 * k)) : ¬ ChecksumValid (s.swapBytes k) := by
  refine not_checksumValid_of_one_word_changed (m := k + 1) (by simp) hv
    (fun l h0 h1 => by rw [State.fb_swapBytes hk, if_neg (by omega), if_neg (by omega)]) ⟨2 + 2 * k, ?_⟩
  rw [State.fb_swapBytes hk, if_neg (by omega), if_pos rfl]
  exact hne

/-- Settles O32: the two changed frames are `flipBit` and `swapBytes`, and each differs in one word. -/
theorem bitFlipsAndByteExchangesAreDetected : Obligations.BitFlipsAndByteExchangesAreDetected := by
  refine ⟨?_, ?_⟩
  · rintro s t i j hi hj rfl
    exact ⟨csum_flipBit_covered hi hj, csum_flipBit_stored hi hj,
      fun hv => exec_verify_rejects (not_checksumValid_flipBit hi hj hv)⟩
  · rintro s t k a b hk rfl rfl rfl
    exact ⟨csum_swapBytes hk, fun hv hne => exec_verify_rejects (not_checksumValid_swapBytes hk hv hne)⟩

/-! ### Changes that compensate each other -/

/-- 40_checksum.md R108: a valid frame stays valid where the sum and the stored checksum change by the same amount
modulo 2^16. -/
theorem checksumValid_of_compensated {s t : State} (hv : ChecksumValid s)
    (h : (coveredSum t + LE16At s 0) % 65536 = (coveredSum s + LE16At t 0) % 65536) : ChecksumValid t := by
  have := LE16At_lt t 0
  unfold ChecksumValid at *
  omega

/-- The sum does not depend on the order of the words (40_checksum.md R108). -/
theorem coveredSum_of_perm {s t : State} (σ : Equiv.Perm Nat) (hp : t.params = s.params)
    (hσ : ∀ i, σ i ≠ i → 2 + 2 * i < s.params.frameSize)
    (h : ∀ i, LE16At t (2 + 2 * i) = LE16At s (2 + 2 * σ i)) : coveredSum t = coveredSum s := by
  have hsupport : { i | σ i ≠ i } ⊆ (Finset.range ((s.params.frameSize - 1) / 2) : Set Nat) := fun i hi => by
    have := hσ i hi
    rw [Finset.mem_coe, Finset.mem_range]
    omega
  simp only [coveredSum, hp, h]
  exact Equiv.Perm.sum_comp σ _ (fun i => LE16At s (2 + 2 * i)) hsupport

/-- Settles O33: the exchange of two words permutes them, and leaves the stored checksum as it is. -/
theorem compensatingChangesAreNotDetected : Obligations.CompensatingChangesAreNotDetected := by
  refine ⟨fun s t _ hv h => exec_verify_accepts (checksumValid_of_compensated hv h), ?_⟩
  intro s t k l hp hv _ hk hl hk0 hk1 hl0 hl1 hrest
  have hword (i : Nat) : LE16At t (2 + 2 * i) = LE16At s (2 + 2 * Equiv.swap k l i) := by
    rw [Equiv.swap_apply_def]
    split_ifs with hik hil
    · rw [hik, LE16At_covered, LE16At_covered, hk0, hk1]
    · rw [hil, LE16At_covered, LE16At_covered, hl0, hl1]
    · apply LE16At_congr <;> apply hrest <;> omega
  have hinside (i : Nat) (hi : Equiv.swap k l i ≠ i) : 2 + 2 * i < s.params.frameSize := by
    obtain ⟨-, rfl | rfl⟩ := Equiv.swap_apply_ne_self_iff.1 hi <;> omega
  have hsum : coveredSum t = coveredSum s := coveredSum_of_perm (Equiv.swap k l) hp hinside hword
  have hstored : LE16At t 0 = LE16At s 0 := by apply LE16At_congr <;> apply hrest <;> omega
  exact exec_verify_accepts (checksumValid_of_compensated hv (by rw [hsum, hstored]))

end Sys2Proof.Machine
end

section
/-! The frames the formatters build, field by field; that they verify and parse; and the closed forms of their checksum
(41_format.md R120 to R124). -/

namespace Sys2Proof.Machine

open Sys2Proof Sys2Proof.Safety

/-! ### What both formatters leave -/

/-- The transition from `s` to `t` is that of a formatter that puts the payload length `len` into the frame: what
41_format.md R120 and R121 share. -/
structure FormattedFrame (s : State) (len : Byte) (t : State) : Prop where
  msgSeq : LE32At t 2 = s.msgSeq.toNat
  fragSeq : LE32At t 6 = s.fragSeq.toNat
  plen : t.fb 10 = len
  sum : t.csumResult.toNat = coveredSum t % 65536
  stored : LE16At t 0 = t.csumResult.toNat
  onlyFb : OnlyFbWritten s t
  status : StatusAfter s t s.ckOk s.hasTotal 0#4
  frame : t = { s with mem := t.mem, csumResult := t.csumResult, status := t.status }

theorem FormattedFrame.params {s t : State} {len : Byte} (h : FormattedFrame s len t) : t.params = s.params := by
  rw [h.frame]

theorem FormattedFrame.checksumValid {s t : State} {len : Byte} (h : FormattedFrame s len t) : ChecksumValid t := by
  rw [ChecksumValid, ← h.sum, h.stored]

theorem two_le_frameSize {s b : State} (hlegal : s.params.Legal) (hp : b.params = s.params) :
    2 ≤ b.params.frameSize := by
  have := hlegal.1
  rw [hp]
  omega

/-- Sealing completes a formatter: `CSUM_RESULT` is the sum of the sealed frame, whose stored checksum it is
(40_checksum.md R109). -/
theorem csumResult_sealFrame_setErr {b : State} (hF : 2 ≤ b.params.frameSize) (c : ErrCode) :
    (b.sealFrame.setErr c).csumResult.toNat = coveredSum (b.sealFrame.setErr c) % 65536 ∧
      LE16At (b.sealFrame.setErr c) 0 = (b.sealFrame.setErr c).csumResult.toNat := by
  rw [← State.csum_toNat, ← State.stored_toNat, State.setErr_csumResult, State.sealFrame_csumResult,
    State.setErr_csum, State.csum_sealFrame hF]
  exact ⟨rfl, congrArg BitVec.toNat (State.stored_sealFrame hF)⟩

theorem statusAfter_sealFrame_complete (b : State) :
    StatusAfter b (b.sealFrame.setErr .none) b.ckOk b.hasTotal 0#4 := by
  simp [StatusAfter, ErrCode.code]

/-- SEAL leaves the covered bytes as they are (40_checksum.md R105). -/
theorem State.fb_sealFrame_setErr {b : State} (hF : 2 ≤ b.params.frameSize) (c : ErrCode) {k : Nat} (hk : 2 ≤ k) :
    (b.sealFrame.setErr c).fb k = b.fb k := by
  rw [State.setErr_fb, State.fb_sealFrame hF, if_neg (by omega), if_neg (by omega)]

/-- A state that differs from `s` in `FB` alone and holds the header of `s` there becomes a formatted frame when it is
sealed. -/
theorem formattedFrame_sealFrame {s b : State} {len : Byte} (hlegal : s.params.Legal)
    (hframe : b = { s with mem := b.mem }) (honly : OnlyFbWritten s b)
    (hheader : ∀ k, k < 11 → b.fb k = (s.putHeader len).fb k) :
    FormattedFrame s len (b.sealFrame.setErr .none) := by
  have hp : b.params = s.params := by rw [hframe]
  have hlegal' : b.params.Legal := by rw [hp]; exact hlegal
  have hF := two_le_frameSize hlegal hp
  have hfb (k : Nat) (hk : 2 ≤ k) (hk' : k < 11) : (b.sealFrame.setErr .none).fb k = (s.putHeader len).fb k := by
    rw [State.fb_sealFrame_setErr hF _ hk, hheader k hk']
  obtain ⟨hsum, hstored⟩ := csumResult_sealFrame_setErr hF .none
  refine ⟨?_, ?_, ?_, hsum, hstored, onlyFb_trans hp honly (onlyFb_sealFrame hlegal'), ?_, ?_⟩
  · rw [← State.le32_eq_LE32At, State.le32_congr (fun i hi hi' => hfb i hi (by omega)),
      State.le32_putHeader_msgSeq hlegal]
  · rw [← State.le32_eq_LE32At, State.le32_congr (fun i hi hi' => hfb i (by omega) (by omega)),
      State.le32_putHeader_fragSeq hlegal]
  · rw [hfb 10 (by decide) (by decide), State.fb_putHeader hlegal, if_pos rfl]
  · have hstatus := statusAfter_sealFrame_complete b
    rw [hframe] at hstatus ⊢
    exact hstatus
  · rw [hframe]
    ext1 <;> simp

/-! ### FMT_DATA -/

theorem le_frameStart (q : Nat) : 11 ≤ frameStart q := by
  unfold frameStart; split <;> decide

theorem frameStart_of_eq_zero {q : Word} (h : q = 0#32) : frameStart q.toNat = 15 := by
  rw [h]; rfl

theorem frameStart_of_ne_zero {q : Word} (h : q ≠ 0#32) : frameStart q.toNat = 11 :=
  (payloadOffset_eq q).symm.trans (if_neg h)

/-- The header of a data frame ends before its payload and its total size (30_encoding.md R70). -/
theorem State.fb_dataBody_header {s : State} (hlegal : s.params.Legal)
    (hfits : s.plen.toNat ≤ frameCap s s.fragSeq.toNat) {k : Nat} (hk : k < 11) :
    s.dataBody.fb k = (s.putHeader s.plen).fb k := by
  have hstart := le_frameStart s.fragSeq.toNat
  rw [State.fb_dataBody hlegal hfits, if_neg (by omega), if_neg (by omega)]

theorem State.dataBody_frame (s : State) : s.dataBody = { s with mem := s.dataBody.mem } := by
  ext1 <;> simp

/-- The total size of a fragment 0 stands between the header and the payload (30_encoding.md R71). -/
theorem State.fb_dataBody_total {s : State} (hlegal : s.params.Legal)
    (hfits : s.plen.toNat ≤ frameCap s s.fragSeq.toNat) (hfrag : s.fragSeq = 0#32) {k : Nat} (hk : 11 ≤ k)
    (hk' : k < 15) : s.dataBody.fb k = s.totSize.extractLsb' (8 * (k - 11)) 8 := by
  have hstart := frameStart_of_eq_zero hfrag
  rw [State.fb_dataBody hlegal hfits, if_neg (by omega), if_pos ⟨hfrag, hk, hk'⟩]

theorem State.le32_dataBody_total {s : State} (hlegal : s.params.Legal)
    (hfits : s.plen.toNat ≤ frameCap s s.fragSeq.toNat) (hfrag : s.fragSeq = 0#32) :
    s.dataBody.le32 11 = s.totSize := by
  apply State.le32_of_bytes <;> exact State.fb_dataBody_total hlegal hfits hfrag (by decide) (by decide)

theorem State.fb_dataBody_payload {s : State} (hlegal : s.params.Legal)
    (hfits : s.plen.toNat ≤ frameCap s s.fragSeq.toNat) {j : Nat} (hj : j < s.plen.toNat) :
    s.dataBody.fb (frameStart s.fragSeq.toNat + j) = s.pb j := by
  rw [State.fb_dataBody hlegal hfits, if_pos (by omega), Nat.add_sub_cancel_left]

theorem State.fb_dataBody_padding {s : State} (hlegal : s.params.Legal)
    (hfits : s.plen.toNat ≤ frameCap s s.fragSeq.toNat) {k : Nat}
    (hk : frameStart s.fragSeq.toNat + s.plen.toNat ≤ k) : s.dataBody.fb k = 0#8 := by
  have hstart := le_frameStart s.fragSeq.toNat
  have htot : ¬ (s.fragSeq = 0#32 ∧ 11 ≤ k ∧ k < 15) := fun ⟨hfrag, _, hlt⟩ => by
    have := frameStart_of_eq_zero hfrag
    omega
  rw [State.fb_dataBody hlegal hfits, if_neg (by omega), if_neg htot, State.fb_putHeader_rest hlegal _ (by omega)]

/-- The formatted frame that FMT_DATA leaves when `PLEN` fits (41_format.md R120). -/
theorem formattedFrame_fmtData {s : State} (hlegal : s.params.Legal)
    (hfits : s.plen.toNat ≤ frameCap s s.fragSeq.toNat) :
    FormattedFrame s s.plen (s.dataBody.sealFrame.setErr .none) :=
  formattedFrame_sealFrame hlegal s.dataBody_frame (onlyFb_dataBody hlegal hfits)
    (fun _ => State.fb_dataBody_header hlegal hfits)

/-- Settles O35: the frame of FMT_DATA is the sealed `dataBody`. -/
theorem fmtDataBuildsTheDataFrame : Obligations.FmtDataBuildsTheDataFrame := by
  intro s hlegal
  refine ⟨fun hfits => ?_, fun hlong => ?_⟩
  · have hF := two_le_frameSize hlegal s.dataBody_params
    have hfb {k : Nat} (hk : 11 ≤ k) : (s.dataBody.sealFrame.setErr .none).fb k = s.dataBody.fb k :=
      State.fb_sealFrame_setErr hF _ (by omega)
    have hstart := le_frameStart s.fragSeq.toNat
    have h := formattedFrame_fmtData hlegal hfits
    refine ⟨_, exec_fmtData_fits hfits, h.msgSeq, h.fragSeq, h.plen, fun hfrag => ?_, fun j hj => ?_, fun i hi => ?_,
      h.sum, h.stored, h.onlyFb, h.status, h.frame⟩
    · rw [← State.le32_eq_LE32At, State.le32_congr (fun i hi _ => hfb hi),
        State.le32_dataBody_total hlegal hfits hfrag]
    · rw [hfb (by omega), State.fb_dataBody_payload hlegal hfits hj]
    · rw [hfb (by omega), State.fb_dataBody_padding hlegal hfits hi]
  · exact ⟨_, exec_fmtData_exceeds hlong, by simp [StatusAfter, ErrCode.code], rfl⟩

/-! ### FMT_ACK -/

theorem State.putHeader_frame (s : State) (len : Byte) :
    s.putHeader len = { s with mem := (s.putHeader len).mem } := by
  ext1 <;> simp

/-- The formatted frame that FMT_ACK leaves (41_format.md R121). -/
theorem formattedFrame_fmtAck {s : State} (hlegal : s.params.Legal) :
    FormattedFrame s 0#8 ((s.putHeader 0#8).sealFrame.setErr .none) :=
  formattedFrame_sealFrame hlegal (s.putHeader_frame 0#8) (onlyFb_putHeader hlegal 0#8) (fun _ _ => rfl)

/-- Bytes 10 to `F - 1` of the ack are 0 (30_encoding.md R73). -/
theorem fb_fmtAck_zero {s : State} (hlegal : s.params.Legal) {k : Nat} (hk : 10 ≤ k) :
    ((s.putHeader 0#8).sealFrame.setErr .none).fb k = 0#8 := by
  have hF := two_le_frameSize hlegal (s.putHeader_params 0#8)
  rw [State.fb_sealFrame_setErr hF _ (by omega), State.fb_putHeader_zero hlegal hk]

/-- Settles O36: the frame of FMT_ACK is the sealed header. -/
theorem fmtAckBuildsTheAckFrame : Obligations.FmtAckBuildsTheAckFrame := by
  intro s hlegal
  have h := formattedFrame_fmtAck hlegal
  exact ⟨_, exec_fmtAck s, h.msgSeq, h.fragSeq, fun _ => fb_fmtAck_zero hlegal, h.sum, h.stored, h.onlyFb, h.status,
    h.frame⟩

/-! ### The formatted frames are accepted -/

/-- An FMT_DATA that ends with `ERR = NONE` has built a frame (41_format.md R120). -/
theorem exec_fmtData_of_err_eq_none {s t : State} (h : exec .fmtData s = .next t) (herr : t.err = 0#4) :
    s.plen.toNat ≤ frameCap s s.fragSeq.toNat ∧ t = s.dataBody.sealFrame.setErr .none := by
  obtain ⟨-, h'⟩ | ⟨hfits, h'⟩ := exec_fmtData s
  · rw [exec_next_unique h h', State.err_setErr] at herr
    exact absurd herr (by decide)
  · exact ⟨hfits, exec_next_unique h h'⟩

/-- PARSE_DATA accepts a formatted frame whose payload length fits (42_parse.md R140). -/
theorem FormattedFrame.parseData {s t : State} (h : FormattedFrame s s.plen t)
    (hfits : s.plen.toNat ≤ frameCap s s.fragSeq.toNat) :
    ∃ u, exec .parseData t = .next u ∧ u.ckOk = true ∧ u.err = 0#4 := by
  have hfits' : (t.fb 10).toNat ≤ frameCap t (LE32At t 6) := by
    rw [h.plen, h.fragSeq, frameCap_congr h.params]
    exact hfits
  exact ⟨_, exec_parseData_accepts h.checksumValid hfits', by simp, by simp [ErrCode.code]⟩

/-- PARSE_ACK accepts a formatted frame with no payload (42_parse.md R141). -/
theorem FormattedFrame.parseAck {s t : State} (h : FormattedFrame s 0#8 t) :
    ∃ u, exec .parseAck t = .next u ∧ u.ckOk = true ∧ u.err = 0#4 :=
  ⟨_, exec_parseAck_accepts h.checksumValid h.plen, by simp, by simp [ErrCode.code]⟩

/-- Settles O37: a formatted frame is valid, and its payload length fits. -/
theorem formattedFramesVerifyAndParse : Obligations.FormattedFramesVerifyAndParse := by
  refine ⟨fun s t hlegal ht herr => ?_, fun s t hlegal ht => ?_⟩
  · obtain ⟨hfits, rfl⟩ := exec_fmtData_of_err_eq_none ht herr
    have h := formattedFrame_fmtData hlegal hfits
    exact ⟨exec_verify_accepts h.checksumValid, h.parseData hfits⟩
  · obtain rfl := exec_next_unique ht (exec_fmtAck s)
    have h := formattedFrame_fmtAck hlegal
    exact ⟨exec_verify_accepts h.checksumValid, h.parseAck⟩

/-! ### The empty message -/

/-- The data frame of the empty message is the header alone: its total size is 0 like the padding around it
(41_format.md R123). -/
theorem State.fb_dataBody_empty {s : State} (hlegal : s.params.Legal) (hplen : s.plen = 0#8)
    (htot : s.totSize = 0#32) (k : Nat) : s.dataBody.fb k = (s.putHeader 0#8).fb k := by
  rw [State.fb_dataBody hlegal (by simp [hplen]), hplen, htot, if_neg (by simp)]
  split
  case isTrue h =>
    obtain ⟨-, hk, -⟩ := h
    rw [State.fb_putHeader_rest hlegal _ hk, BitVec.extractLsb'_zero]
  case isFalse => rfl

/-- Settles O38: both commands seal the same header. -/
theorem ackOfFragmentZeroEqualsTheEmptyMessageFrame : Obligations.AckOfFragmentZeroEqualsTheEmptyMessageFrame := by
  intro s r t u hlegal hp hmsg hfragS hfragR hplen htot ht hu
  have hlegal' : r.params.Legal := by rw [hp]; exact hlegal
  have hF := two_le_frameSize hlegal (s.putHeader_params 0#8)
  have hbody (k : Nat) : r.dataBody.fb k = (s.putHeader 0#8).fb k := by
    rw [State.fb_dataBody_empty hlegal' hplen htot, State.fb_putHeader hlegal', State.fb_putHeader hlegal,
      hmsg, hfragR, hfragS]
  obtain ⟨-, hfb⟩ := State.sealFrame_congr (r := r.dataBody) hF (by simp [hp]) hbody
  obtain rfl := exec_next_unique ht (exec_fmtAck s)
  obtain rfl := exec_next_unique hu (exec_fmtData_fits (s := r) (by simp [hplen]))
  intro k
  rw [State.setErr_fb, State.setErr_fb, hfb]

/-! ### Closed forms of the checksum -/

/-- The words at `a` and `a + 2` are the halves of the number at `a` (00_scope.md R13). -/
theorem LE16At_of_LE32At {s : State} {a v : Nat} (h : LE32At s a = v) :
    LE16At s a = v % 65536 ∧ LE16At s (a + 2) = v / 65536 := by
  have hhi : LE16At s (a + 2) = (s.fb (a + 2)).toNat + 256 * (s.fb (a + 3)).toNat := rfl
  have hlo : LE16At s a = (s.fb a).toNat + 256 * (s.fb (a + 1)).toNat := rfl
  have := LE16At_lt s a
  unfold LE32At at h
  omega

/-- The five words of the header, then the words from `FB[12]` on (41_format.md R124). -/
theorem coveredSum_eq_header_add_rest {s : State} (hlegal : s.params.Legal) :
    coveredSum s = LE16At s 2 + LE16At s 4 + LE16At s 6 + LE16At s 8 + LE16At s 10 +
      ∑ i ∈ Finset.range ((s.params.frameSize - 11) / 2), LE16At s (12 + 2 * i) := by
  have hF := hlegal.1
  have hcount : (s.params.frameSize - 1) / 2 = 5 + (s.params.frameSize - 11) / 2 := by omega
  have hrest (i : Nat) : 2 + 2 * (5 + i) = 12 + 2 * i := by omega
  simp only [coveredSum, hcount, Finset.sum_range_add, hrest]
  simp [Finset.sum_range_succ]

/-- The checksum of a formatted frame: the halves of the sequence numbers, the word of the payload length, the rest
(41_format.md R124). -/
theorem FormattedFrame.csumResult_eq {s t : State} {len : Byte} (h : FormattedFrame s len t)
    (hlegal : s.params.Legal) :
    t.csumResult.toNat = (s.msgSeq.toNat % 65536 + s.msgSeq.toNat / 65536 +
      s.fragSeq.toNat % 65536 + s.fragSeq.toNat / 65536 + (len.toNat + 256 * (t.fb 11).toNat) +
      ∑ i ∈ Finset.range ((s.params.frameSize - 11) / 2), LE16At t (12 + 2 * i)) % 65536 := by
  obtain ⟨hm0, hm1⟩ := LE16At_of_LE32At h.msgSeq
  obtain ⟨hs0, hs1⟩ := LE16At_of_LE32At h.fragSeq
  have hlen : LE16At t 10 = len.toNat + 256 * (t.fb 11).toNat := by rw [LE16At, h.plen]
  rw [h.sum, coveredSum_eq_header_add_rest (by rw [h.params]; exact hlegal), hm0, hm1, hs0, hs1, hlen, h.params]

/-- The byte after the payload length: of the total size in fragment 0, of the payload otherwise, padding where there
is none (41_format.md R124, `b11`). -/
theorem State.fb_dataBody_eleven {s : State} (hlegal : s.params.Legal)
    (hfits : s.plen.toNat ≤ frameCap s s.fragSeq.toNat) :
    (s.dataBody.fb 11).toNat = if s.fragSeq = 0#32 then s.totSize.toNat % 256
      else if s.plen = 0#8 then 0 else (s.pb 0).toNat := by
  split
  case isTrue hfrag =>
    rw [State.fb_dataBody_total hlegal hfits hfrag (by decide) (by decide), BitVec.extractLsb'_toNat]
    rfl
  case isFalse hfrag =>
    have hstart := frameStart_of_ne_zero hfrag
    split
    case isTrue hplen => rw [State.fb_dataBody_padding hlegal hfits (by simp [hstart, hplen])]; rfl
    case isFalse hplen =>
      have hpos : 0 < s.plen.toNat := by bv_omega
      rw [← State.fb_dataBody_payload hlegal hfits hpos, hstart]

/-- Settles O39: the words from `FB[12]` on are 0 in an ack, and byte 11 is `b11` in a data frame. -/
theorem formatterChecksumClosedForms : Obligations.FormatterChecksumClosedForms := by
  refine ⟨fun s t hlegal ht => ?_, fun s t hlegal ht herr => ?_⟩
  · obtain rfl := exec_next_unique ht (exec_fmtAck s)
    have hrest (i : Nat) : LE16At ((s.putHeader 0#8).sealFrame.setErr .none) (12 + 2 * i) = 0 := by
      rw [LE16At, fb_fmtAck_zero hlegal (by omega), fb_fmtAck_zero hlegal (by omega)]; rfl
    rw [(formattedFrame_fmtAck hlegal).csumResult_eq hlegal, fb_fmtAck_zero hlegal (by decide)]
    simp [hrest]
  · obtain ⟨hfits, rfl⟩ := exec_fmtData_of_err_eq_none ht herr
    have hF := two_le_frameSize hlegal s.dataBody_params
    rw [(formattedFrame_fmtData hlegal hfits).csumResult_eq hlegal, State.fb_sealFrame_setErr hF _ (by decide),
      State.fb_dataBody_eleven hlegal hfits]

end Sys2Proof.Machine
end

section
/-! The outcomes of the parsers: a frame that is not checksum-valid is rejected by both alike, the header of any other
is loaded, and PARSE_DATA unpacks the payload (42_parse.md R140, R141, R143). -/

namespace Sys2Proof.Machine

open Sys2Proof Sys2Proof.Safety

/-! ### A frame that is not checksum-valid -/

/-- What either parser leaves of a frame that is not checksum-valid (42_parse.md R140, R141). -/
def State.rejectFrame (s : State) : State :=
  ((s.recordCsum.setCkOk false).setHasTotal false).setErr .badChecksum

theorem State.setHasTotal_setCkOk (s : State) (tot ck : Bool) :
    (s.setHasTotal tot).setCkOk ck = (s.setCkOk ck).setHasTotal tot := by
  have hstatus : ((s.setHasTotal tot).setCkOk ck).status = ((s.setCkOk ck).setHasTotal tot).status := by
    apply State.status_ext <;> simp
  ext1 <;> simp [hstatus]

theorem exec_parse_rejects {i : Instr} {s : State} (hi : i = .parseData ∨ i = .parseAck)
    (hv : ¬ ChecksumValid s) : exec i s = .next s.rejectFrame := by
  obtain rfl | rfl := hi
  · obtain ⟨-, h⟩ | ⟨hv', -⟩ | ⟨hv', -⟩ := exec_parseData s
    · exact h
    · exact absurd hv' hv
    · exact absurd hv' hv
  · obtain ⟨-, h⟩ | ⟨hv', -⟩ | ⟨hv', -⟩ := exec_parseAck s
    · rw [h, State.setHasTotal_setCkOk]; rfl
    · exact absurd hv' hv
    · exact absurd hv' hv

/-- Neither parser reports `BAD_CHECKSUM` for a valid frame. -/
theorem err_ne_badChecksum_of_valid {i : Instr} {s t : State} (hi : i = .parseData ∨ i = .parseAck)
    (hv : ChecksumValid s) (h : exec i s = .next t) : t.err ≠ 2#4 := by
  obtain rfl | rfl := hi
  · obtain ⟨hv', -⟩ | ⟨-, -, h'⟩ | ⟨-, -, h'⟩ := exec_parseData s
    · exact absurd hv hv'
    all_goals rw [exec_next_unique h h', State.err_setErr]; decide
  · obtain ⟨hv', -⟩ | ⟨-, -, h'⟩ | ⟨-, -, h'⟩ := exec_parseAck s
    · exact absurd hv hv'
    all_goals rw [exec_next_unique h h', State.err_setErr]; decide

theorem statusAfter_rejectFrame (s : State) : StatusAfter s s.rejectFrame false false 2#4 := by
  simp [StatusAfter, State.rejectFrame, ErrCode.code]

theorem exec_parse_invalid {i : Instr} {s : State} (hi : i = .parseData ∨ i = .parseAck) (hv : ¬ ChecksumValid s) :
    ∃ t, exec i s = .next t ∧ t.csumResult.toNat = coveredSum s % 65536 ∧ StatusAfter s t false false 2#4 ∧
      t = { s with csumResult := t.csumResult, status := t.status } :=
  ⟨_, exec_parse_rejects hi hv, s.csum_toNat, statusAfter_rejectFrame s, rfl⟩

/-- Settles O44: only an invalid frame gives `BAD_CHECKSUM`, and its rejection writes no field register. -/
theorem badChecksumDeliversNothing : Obligations.BadChecksumDeliversNothing := by
  intro i s t hi h herr
  have hv : ¬ ChecksumValid s := fun hv => err_ne_badChecksum_of_valid hi hv h herr
  obtain rfl := exec_next_unique h (exec_parse_rejects hi hv)
  exact ⟨hv, rfl, rfl, rfl, rfl, rfl⟩

/-! ### The header of a checksum-valid frame -/

/-- The transition from `s` to `t` is that of a parser that has accepted the checksum and loaded the header: what
42_parse.md R140 and R141 share. -/
structure HeaderParsed (s t : State) (tot : Bool) (code : BitVec 4) : Prop where
  sum : t.csumResult.toNat = coveredSum s % 65536
  msgSeq : t.msgSeq.toNat = LE32At s 2
  fragSeq : t.fragSeq.toNat = LE32At s 6
  plen : t.plen = s.fb 10
  status : StatusAfter s t true tot code

theorem State.frameFragSeq_eq_zero_iff (s : State) : s.frameFragSeq = 0#32 ↔ LE32At s 6 = 0 := by
  rw [← State.le32_eq_LE32At, ← BitVec.toNat_inj]; rfl

theorem headerParsed_of_loaded {s t : State} {tot : Bool} {code : BitVec 4} (hsum : t.csumResult = s.csum)
    (hmsg : t.msgSeq = s.frameMsgSeq) (hfrag : t.fragSeq = s.frameFragSeq) (hlen : t.plen = s.framePlen)
    (hstatus : StatusAfter s t true tot code) : HeaderParsed s t tot code :=
  ⟨hsum ▸ s.csum_toNat, hmsg ▸ s.le32_eq_LE32At 2, hfrag ▸ s.le32_eq_LE32At 6, hlen, hstatus⟩

theorem headerParsed_parsedData (s : State) (c : ErrCode) :
    HeaderParsed s (s.parsedData.setErr c) (decide (LE32At s 6 = 0)) c.code :=
  headerParsed_of_loaded (by simp) (by simp) (by simp) (by simp)
    (by simp [StatusAfter, State.frameFragSeq_eq_zero_iff])

theorem headerParsed_loadPayload (s : State) (c : ErrCode) :
    HeaderParsed s (s.parsedData.loadPayload.setErr c) (decide (LE32At s 6 = 0)) c.code :=
  headerParsed_of_loaded (by simp) (by simp) (by simp) (by simp)
    (by simp [StatusAfter, State.frameFragSeq_eq_zero_iff])

theorem headerParsed_parsedAck (s : State) (c : ErrCode) :
    HeaderParsed s (s.parsedAck.setErr c) false c.code :=
  headerParsed_of_loaded rfl rfl rfl rfl (by simp [StatusAfter])

/-! ### PARSE_DATA -/

theorem State.parsedData_totSize_toNat (s : State) :
    s.parsedData.totSize.toNat = if LE32At s 6 = 0 then LE32At s 11 else s.totSize.toNat := by
  simp only [State.parsedData_totSize, State.frameFragSeq_eq_zero_iff]
  split
  · exact s.le32_eq_LE32At 11
  · rfl

theorem exec_parseData_malformed {s : State} (hv : ChecksumValid s) (h : frameCap s (LE32At s 6) < (s.fb 10).toNat) :
    exec .parseData s = .next (s.parsedData.setErr .malformed) := by
  obtain ⟨hv', -⟩ | ⟨-, -, h'⟩ | ⟨-, hfits, -⟩ := exec_parseData s
  · exact absurd hv hv'
  · exact h'
  · omega

/-- `PB` after the unpacking: the payload, then zeros (42_parse.md R140). -/
theorem State.pb_loadPayload (s : State) {j : Nat} (hj : j < s.capacity) :
    s.loadPayload.pb j = if j < s.plen.toNat then s.fb (payloadOffset s.fragSeq + j) else 0#8 := by
  rw [State.loadPayload, State.pb_fillPb, if_pos hj]

theorem onlyPb_loadPayload (s : State) : OnlyPbWritten s s.loadPayload := fun a ha => by
  rw [State.loadPayload, State.read_fillPb, if_neg ha]

theorem State.pb_parsedData_loadPayload (s : State) {j : Nat} (hj : j < s.capacity) :
    s.parsedData.loadPayload.pb j =
      if j < (s.fb 10).toNat then s.fb (frameStart (LE32At s 6) + j) else 0#8 := by
  have hcap : j < s.parsedData.capacity := by rw [State.capacity_congr s.parsedData_params]; exact hj
  have hstart : payloadOffset s.frameFragSeq = frameStart (LE32At s 6) := by
    rw [payloadOffset_eq, State.frameFragSeq, State.le32_eq_LE32At]
  rw [State.pb_loadPayload _ hcap, State.parsedData_plen, State.parsedData_fragSeq, State.parsedData_fb, hstart]
  rfl

theorem onlyPb_parsedData_loadPayload (s : State) : OnlyPbWritten s s.parsedData.loadPayload := fun a ha => by
  rw [onlyPb_loadPayload s.parsedData a (by rw [State.capacity_congr s.parsedData_params]; exact ha),
    State.parsedData_mem]

/-- Settles O41: the three outcomes of `exec_parseData`, each with the registers it has loaded. -/
theorem parseDataChecksAndUnpacks : Obligations.ParseDataChecksAndUnpacks := by
  intro s _
  refine ⟨exec_parse_invalid (.inl rfl), fun hv hlong => ?_, fun hv hfits => ?_⟩
  · have h := headerParsed_parsedData s .malformed
    exact ⟨_, exec_parseData_malformed hv hlong, h.sum, h.msgSeq, h.fragSeq, h.plen, s.parsedData_totSize_toNat,
      h.status, by ext1 <;> simp⟩
  · have h := headerParsed_loadPayload s .none
    have htot : (s.parsedData.loadPayload.setErr .none).totSize = s.parsedData.totSize := by simp
    exact ⟨_, exec_parseData_accepts hv hfits, h.sum, h.msgSeq, h.fragSeq, h.plen,
      htot ▸ s.parsedData_totSize_toNat, fun j => s.pb_parsedData_loadPayload, onlyPb_parsedData_loadPayload s,
      h.status, by ext1 <;> simp⟩

/-! ### PARSE_ACK -/

/-- PARSE_ACK of a valid frame loads the header, and reports whether the payload length is 0 (42_parse.md R141). -/
theorem exec_parseAck_valid {s : State} (hv : ChecksumValid s) :
    ∃ c : ErrCode, c.code = (if s.fb 10 = 0#8 then 0#4 else 3#4) ∧
      exec .parseAck s = .next (s.parsedAck.setErr c) := by
  obtain ⟨hv', -⟩ | ⟨-, hlen, h⟩ | ⟨-, hlen, h⟩ := exec_parseAck s
  · exact absurd hv hv'
  · exact ⟨_, by rw [if_neg hlen]; rfl, h⟩
  · exact ⟨_, by rw [if_pos hlen]; rfl, h⟩

/-- Settles O42: both outcomes of a valid frame load the same registers. -/
theorem parseAckChecksAndUnpacks : Obligations.ParseAckChecksAndUnpacks := by
  intro s
  refine ⟨exec_parse_invalid (.inr rfl), fun hv => ?_⟩
  obtain ⟨c, hcode, h⟩ := exec_parseAck_valid hv
  have hp := headerParsed_parsedAck s c
  exact ⟨_, h, hp.sum, hp.msgSeq, hp.fragSeq, hp.plen, hcode ▸ hp.status, rfl⟩

end Sys2Proof.Machine
end

section
/-! A duplicate is parsed like the first copy: each outcome of a parser, performed again on the state it has left, leaves
that state (42_parse.md R145). -/

namespace Sys2Proof.Machine

open Sys2Proof Sys2Proof.Safety

/-! ### The state a parser leaves holds the same frame -/

/-- `t` has the parameters of `s` and the same bytes in `FB`. -/
structure SameFrame (s t : State) : Prop where
  params : t.params = s.params
  fb : ∀ i, t.fb i = s.fb i

theorem SameFrame.checksumValid_iff {s t : State} (h : SameFrame s t) : ChecksumValid t ↔ ChecksumValid s := by
  rw [← State.frameValid_iff, ← State.frameValid_iff, State.frameValid_congr h.params h.fb]

theorem SameFrame.LE32At_eq {s t : State} (h : SameFrame s t) (a : Nat) : LE32At t a = LE32At s a := by
  simp only [LE32At, h.fb]

theorem SameFrame.frameCap_eq {s t : State} (h : SameFrame s t) :
    frameCap t (LE32At t 6) = frameCap s (LE32At s 6) := by
  rw [h.LE32At_eq, frameCap_congr h.params]

theorem status_eq_of_statusAfter {s t u : State} {ck tot : Bool} {code : BitVec 4} (h : StatusAfter s t ck tot code)
    (h' : StatusAfter t u ck tot code) : u.status = t.status := by
  obtain ⟨hck, htot, herr, -⟩ := h
  obtain ⟨hck', htot', herr', hres'⟩ := h'
  exact State.status_ext (hck'.trans hck.symm) (htot'.trans htot.symm) hres' (herr'.trans herr.symm)

/-- A header loaded twice from the same bytes: the second parse leaves the state of the first where it writes no more
than the header. -/
theorem HeaderParsed.eq_of_again {s t u : State} {tot : Bool} {code : BitVec 4} (h : HeaderParsed s t tot code)
    (h' : HeaderParsed t u tot code) (hsame : SameFrame s t)
    (hframe : u = { t with csumResult := u.csumResult, status := u.status, msgSeq := u.msgSeq,
                           fragSeq := u.fragSeq, plen := u.plen }) : u = t := by
  have hcovered : coveredSum t = coveredSum s := coveredSum_congr hsame.params (fun i _ => hsame.fb i)
  have hsum : u.csumResult = t.csumResult := BitVec.eq_of_toNat_eq (by rw [h'.sum, h.sum, hcovered])
  have hmsg : u.msgSeq = t.msgSeq := BitVec.eq_of_toNat_eq (by rw [h'.msgSeq, h.msgSeq, hsame.LE32At_eq])
  have hfrag : u.fragSeq = t.fragSeq := BitVec.eq_of_toNat_eq (by rw [h'.fragSeq, h.fragSeq, hsame.LE32At_eq])
  have hlen : u.plen = t.plen := by rw [h'.plen, h.plen, hsame.fb]
  rw [hframe, hsum, hmsg, hfrag, hlen, status_eq_of_statusAfter h.status h'.status]

/-! ### Each outcome again -/

theorem State.rejectFrame_rejectFrame (s : State) : s.rejectFrame.rejectFrame = s.rejectFrame := by
  ext1
  case csumResult => exact State.csum_congr rfl (fun _ _ => rfl)
  case status => exact status_eq_of_statusAfter (statusAfter_rejectFrame s) (statusAfter_rejectFrame s.rejectFrame)
  all_goals rfl

theorem exec_parse_rejects_again {i : Instr} {s : State} (hi : i = .parseData ∨ i = .parseAck)
    (hv : ¬ ChecksumValid s) : exec i s.rejectFrame = .next s.rejectFrame := by
  have hsame : SameFrame s s.rejectFrame := ⟨rfl, fun _ => rfl⟩
  rw [exec_parse_rejects hi (mt hsame.checksumValid_iff.1 hv), State.rejectFrame_rejectFrame]

theorem exec_parseAck_again {s t : State} (hv : ChecksumValid s) (h : exec .parseAck s = .next t) :
    exec .parseAck t = .next t := by
  obtain ⟨c, hcode, h'⟩ := exec_parseAck_valid hv
  obtain rfl := exec_next_unique h h'
  have hsame : SameFrame s (s.parsedAck.setErr c) := ⟨rfl, fun _ => rfl⟩
  obtain ⟨c', hcode', hagain⟩ := exec_parseAck_valid (hsame.checksumValid_iff.2 hv)
  have hc : c'.code = c.code := by rw [hcode', hcode, hsame.fb]
  have hp' := hc ▸ headerParsed_parsedAck (s.parsedAck.setErr c) c'
  rw [hagain, (headerParsed_parsedAck s c).eq_of_again hp' hsame rfl]

/-- `TOTSIZE` is loaded again from the same bytes, or left as the first parse left it. -/
theorem State.parsedData_totSize_again {s t : State} (hsame : SameFrame s t) (htot : t.totSize = s.parsedData.totSize) :
    t.parsedData.totSize = t.totSize := by
  apply BitVec.eq_of_toNat_eq
  rw [htot, State.parsedData_totSize_toNat, htot, State.parsedData_totSize_toNat, hsame.LE32At_eq, hsame.LE32At_eq]
  split <;> rfl

theorem exec_parseData_malformed_again {s : State} (hv : ChecksumValid s)
    (hlong : frameCap s (LE32At s 6) < (s.fb 10).toNat) :
    exec .parseData (s.parsedData.setErr .malformed) = .next (s.parsedData.setErr .malformed) := by
  have hsame : SameFrame s (s.parsedData.setErr .malformed) := ⟨by simp, by simp⟩
  have htot := State.parsedData_totSize_again hsame rfl
  have hp' := headerParsed_parsedData (s.parsedData.setErr .malformed) .malformed
  rw [hsame.LE32At_eq] at hp'
  rw [exec_parseData_malformed (hsame.checksumValid_iff.2 hv) (by rw [hsame.frameCap_eq, hsame.fb]; exact hlong),
    (headerParsed_parsedData s .malformed).eq_of_again hp' hsame (by ext1 <;> simp [htot])]

/-- A canonical memory is the same after a transition that writes to `PB` what it already holds. -/
theorem mem_eq_of_pb_eq {t u : State} (hp : u.params = t.params) (ht : Memory.wf t.mem) (hu : Memory.wf u.mem)
    (honly : OnlyPbWritten t u) (hpb : ∀ j, j < t.capacity → u.pb j = t.pb j) : u.mem = t.mem := by
  refine Memory.ext_of_read hu ht (fun a => ?_)
  by_cases ha : pbBase ≤ a ∧ a < pbBase + t.capacity
  · obtain ⟨j, rfl⟩ := Nat.exists_eq_add_of_le ha.1
    have hj : j < t.capacity := by omega
    have hread := hpb j hj
    rwa [State.pb, State.pb, State.capacity_congr hp, if_pos hj, if_pos hj] at hread
  · exact honly a ha

theorem wf_parsedData_loadPayload {s : State} (h : Memory.wf s.mem) : Memory.wf s.parsedData.loadPayload.mem :=
  Memory.wf_writeRun (by rwa [State.parsedData_mem]) _ _ _

/-- `PB` is unpacked again from the same bytes. -/
theorem State.loadPayload_mem_again {s t : State} (hsame : SameFrame s t) (hcanon : Memory.wf s.mem)
    (hmem : t.mem = s.parsedData.loadPayload.mem) : t.parsedData.loadPayload.mem = t.mem := by
  have hcap : t.capacity = s.capacity := State.capacity_congr hsame.params
  have ht : Memory.wf t.mem := hmem ▸ wf_parsedData_loadPayload hcanon
  refine mem_eq_of_pb_eq (by simp) ht (wf_parsedData_loadPayload ht) (onlyPb_parsedData_loadPayload t)
    (fun j hj => ?_)
  have hpb : t.pb j = s.parsedData.loadPayload.pb j := State.pb_congr (by simp [hsame.params]) hmem j
  rw [hpb, t.pb_parsedData_loadPayload hj, s.pb_parsedData_loadPayload (hcap ▸ hj), hsame.LE32At_eq]
  simp only [hsame.fb]

theorem exec_parseData_accepts_again {s : State} (hlegal : s.params.Legal) (hcanon : Memory.wf s.mem)
    (hv : ChecksumValid s) (hfits : (s.fb 10).toNat ≤ frameCap s (LE32At s 6)) :
    exec .parseData (s.parsedData.loadPayload.setErr .none) = .next (s.parsedData.loadPayload.setErr .none) := by
  have hsame : SameFrame s (s.parsedData.loadPayload.setErr .none) :=
    ⟨by simp, fun i => by rw [State.setErr_fb, State.fb_loadPayload (by simpa using hlegal), State.parsedData_fb]⟩
  have htot := State.parsedData_totSize_again hsame (by simp)
  have hmem := State.loadPayload_mem_again hsame hcanon rfl
  have hp' := headerParsed_loadPayload (s.parsedData.loadPayload.setErr .none) .none
  rw [hsame.LE32At_eq] at hp'
  rw [exec_parseData_accepts (hsame.checksumValid_iff.2 hv) (by rw [hsame.frameCap_eq, hsame.fb]; exact hfits),
    (headerParsed_loadPayload s .none).eq_of_again hp' hsame (by ext1 <;> simp [htot, hmem])]

/-- Settles O45: the second parse takes the outcome of the first, and writes what is there. -/
theorem parsingADuplicateChangesNothing : Obligations.ParsingADuplicateChangesNothing := by
  intro i s t hi hsound h
  by_cases hv : ChecksumValid s
  · obtain rfl | rfl := hi
    · obtain ⟨hv', -⟩ | ⟨-, hlong, h'⟩ | ⟨-, hfits, h'⟩ := exec_parseData s
      · exact absurd hv hv'
      · exact exec_next_unique h h' ▸ exec_parseData_malformed_again hv hlong
      · exact exec_next_unique h h' ▸ exec_parseData_accepts_again hsound.legal hsound.canonical hv hfits
    · exact exec_parseAck_again hv h
  · exact exec_next_unique h (exec_parse_rejects hi hv) ▸ exec_parse_rejects_again hi hv

end Sys2Proof.Machine
end

section
/-! The round trips of 42_parse.md R142: parsing a formatted frame gives back its fields, and formatting a parsed frame
rebuilds its bytes where its padding is 0. -/

namespace Sys2Proof.Machine

open Sys2Proof Sys2Proof.Safety

theorem checksumValid_of_stored {t : State} (hsum : t.csumResult.toNat = coveredSum t % 65536)
    (hstored : LE16At t 0 = t.csumResult.toNat) : ChecksumValid t := by
  rw [ChecksumValid, ← hsum, hstored]

theorem legal_of_params_eq {s t : State} (hlegal : s.params.Legal) (hp : t.params = s.params) : t.params.Legal := by
  rwa [hp]

/-- The capacity of a frame is at most that of `PB` (00_scope.md R15). -/
theorem frameCap_le_capacity (s : State) (seq : Nat) : frameCap s seq ≤ s.capacity := by
  unfold frameCap State.capacity; split <;> omega

/-! ### Formatting, then parsing -/

/-- 42_parse.md R142: PARSE_DATA gives back the fields and the payload that FMT_DATA has put into the frame. -/
theorem exec_parseData_of_fmtData {s t : State} (hlegal : s.params.Legal)
    (hfits : s.plen.toNat ≤ frameCap s s.fragSeq.toNat) (h : exec .fmtData s = .next t) :
    ∃ u, exec .parseData t = .next u ∧ u.err = 0#4 ∧ u.msgSeq = s.msgSeq ∧ u.fragSeq = s.fragSeq ∧
      u.plen = s.plen ∧ u.totSize = s.totSize ∧ u.hasTotal = decide (s.fragSeq = 0#32) ∧
      (∀ j, j < s.plen.toNat → u.pb j = s.pb j) ∧ (∀ j, s.plen.toNat ≤ j → u.pb j = 0#8) := by
  obtain ⟨t', h', hmsg, hfrag, hlen, htot, hpay, -, hsum, hstored, -, -, hframe⟩ :=
    (fmtDataBuildsTheDataFrame s hlegal).1 hfits
  obtain rfl := exec_next_unique h h'
  have hp : t.params = s.params := by rw [hframe]
  have htotReg : t.totSize = s.totSize := by rw [hframe]
  have hcap : t.capacity = s.capacity := State.capacity_congr hp
  have hlegal' := legal_of_params_eq hlegal hp
  have hfits' : (t.fb 10).toNat ≤ frameCap t (LE32At t 6) := by rwa [hlen, hfrag, frameCap_congr hp]
  obtain ⟨u, hu, -, humsg, hufrag, hulen, hutot, hupb, -, ⟨-, huhas, huerr, -⟩, huframe⟩ :=
    (parseDataChecksAndUnpacks t hlegal').2.2 (checksumValid_of_stored hsum hstored) hfits'
  have hucap : u.capacity = t.capacity := State.capacity_congr (by rw [huframe])
  rw [hfrag] at hufrag hutot hupb huhas
  rw [hlen] at hulen hupb
  refine ⟨u, hu, huerr, BitVec.eq_of_toNat_eq (humsg.trans hmsg), BitVec.eq_of_toNat_eq hufrag, hulen,
    BitVec.eq_of_toNat_eq ?_, ?_, fun j hj => ?_, fun j hj => ?_⟩
  · rw [hutot, htotReg]
    split
    case isTrue hzero => exact htot (State.fragSeq_eq_zero.2 hzero)
    case isFalse => rfl
  · simp only [huhas, State.fragSeq_eq_zero]
  · have hle := hfits.trans (frameCap_le_capacity s _)
    rw [hupb j (by omega), if_pos hj, hpay j hj]
  · rcases Nat.lt_or_ge j t.capacity with hlt | hge
    · rw [hupb j hlt, if_neg (by omega)]
    · exact u.pb_of_le (by omega)

/-- 42_parse.md R142: PARSE_ACK gives back the sequence numbers that FMT_ACK has put into the frame. -/
theorem exec_parseAck_of_fmtAck {s t : State} (hlegal : s.params.Legal) (h : exec .fmtAck s = .next t) :
    ∃ u, exec .parseAck t = .next u ∧ u.err = 0#4 ∧ u.msgSeq = s.msgSeq ∧ u.fragSeq = s.fragSeq ∧ u.plen = 0#8 := by
  obtain ⟨t', h', hmsg, hfrag, hzero, hsum, hstored, -⟩ := fmtAckBuildsTheAckFrame s hlegal
  obtain rfl := exec_next_unique h h'
  have hlen : t.fb 10 = 0#8 := hzero 10 (by decide)
  obtain ⟨u, hu, -, humsg, hufrag, hulen, ⟨-, -, huerr, -⟩, -⟩ :=
    (parseAckChecksAndUnpacks t).2 (checksumValid_of_stored hsum hstored)
  rw [if_pos hlen] at huerr
  exact ⟨u, hu, huerr, BitVec.eq_of_toNat_eq (humsg.trans hmsg), BitVec.eq_of_toNat_eq (hufrag.trans hfrag),
    hulen.trans hlen⟩

/-! ### Two frames with the same fields -/

/-- The frame in `u` has the fields and the payload of the frame in `s` (30_encoding.md R70, R71). -/
structure SameFields (s u : State) : Prop where
  params : u.params = s.params
  msgSeq : LE32At u 2 = LE32At s 2
  fragSeq : LE32At u 6 = LE32At s 6
  plen : u.fb 10 = s.fb 10
  totSize : LE32At s 6 = 0 → LE32At u 11 = LE32At s 11
  payload : ∀ j, j < (s.fb 10).toNat → u.fb (frameStart (LE32At s 6) + j) = s.fb (frameStart (LE32At s 6) + j)

/-- A number of four bytes determines them (00_scope.md R13). -/
theorem fb_eq_of_LE32At_eq {s u : State} {a k : Nat} (h : LE32At u a = LE32At s a) (ha : a ≤ k) (hk : k < a + 4) :
    u.fb k = s.fb k := by
  have hword : u.le32 a = s.le32 a := BitVec.eq_of_toNat_eq (by simpa only [State.le32_eq_LE32At] using h)
  obtain ⟨n, rfl⟩ := Nat.exists_eq_add_of_le ha
  rw [← u.extractLsb'_le32 a (by omega), hword, s.extractLsb'_le32 a (by omega)]

/-- The fields cover every byte from the header's first to the payload's last. -/
theorem SameFields.fb_eq {s u : State} (h : SameFields s u) {k : Nat} (h2 : 2 ≤ k)
    (hk : k < frameStart (LE32At s 6) + (s.fb 10).toNat) : u.fb k = s.fb k := by
  rcases Nat.lt_or_ge k (frameStart (LE32At s 6)) with hlt | hge
  · obtain hm | hf | rfl | ht : k < 6 ∨ (6 ≤ k ∧ k < 10) ∨ k = 10 ∨ 11 ≤ k := by omega
    · exact fb_eq_of_LE32At_eq h.msgSeq h2 hm
    · exact fb_eq_of_LE32At_eq h.fragSeq hf.1 hf.2
    · exact h.plen
    · by_cases hzero : LE32At s 6 = 0
      · rw [frameStart, if_pos hzero] at hlt
        exact fb_eq_of_LE32At_eq (h.totSize hzero) ht hlt
      · rw [frameStart, if_neg hzero] at hlt
        omega
  · obtain ⟨j, rfl⟩ := Nat.exists_eq_add_of_le hge
    exact h.payload j (by omega)

/-- Valid frames with the same covered bytes store the same checksum (40_checksum.md R102). -/
theorem fb_eq_of_covered_eq {s u : State} (hp : u.params = s.params) (hs : ChecksumValid s) (hu : ChecksumValid u)
    (h : ∀ k, 2 ≤ k → u.fb k = s.fb k) (k : Nat) : u.fb k = s.fb k := by
  have hstored : LE16At u 0 = LE16At s 0 := by rw [← hu, ← hs, coveredSum_congr hp h]
  obtain ⟨hlo, hhi⟩ := fb_eq_of_LE16At_eq hstored
  obtain rfl | rfl | hk : k = 0 ∨ k = 1 ∨ 2 ≤ k := by omega
  · exact hlo
  · exact hhi
  · exact h k hk

/-! ### Parsing, then formatting -/

theorem valid_and_fits_of_err_eq_none {s t : State} (h : exec .parseData s = .next t) (herr : t.err = 0#4) :
    ChecksumValid s ∧ (s.fb 10).toNat ≤ frameCap s (LE32At s 6) := by
  obtain ⟨-, h'⟩ | ⟨-, -, h'⟩ | ⟨hv, hfits, -⟩ := exec_parseData s
  · rw [exec_next_unique h h', State.err_setErr] at herr
    exact absurd herr (by decide)
  · rw [exec_next_unique h h', State.err_setErr] at herr
    exact absurd herr (by decide)
  · exact ⟨hv, hfits⟩

/-- FMT_DATA after an accepting PARSE_DATA puts the fields and the payload it was given back into a valid frame, and
zeros after them. -/
theorem exec_fmtData_of_parseData {s t : State} (hlegal : s.params.Legal) (h : exec .parseData s = .next t)
    (herr : t.err = 0#4) :
    ∃ u, exec .fmtData t = .next u ∧ SameFields s u ∧ ChecksumValid u ∧
      ∀ i, frameStart (LE32At s 6) + (s.fb 10).toNat ≤ i → u.fb i = 0#8 := by
  obtain ⟨hv, hfits⟩ := valid_and_fits_of_err_eq_none h herr
  obtain ⟨t', h', -, hmsg, hfrag, hlen, htot, hpb, -, -, hframe⟩ := (parseDataChecksAndUnpacks s hlegal).2.2 hv hfits
  obtain rfl := exec_next_unique h h'
  have hp : t.params = s.params := by rw [hframe]
  have hfits' : t.plen.toNat ≤ frameCap t t.fragSeq.toNat := by rwa [hlen, hfrag, frameCap_congr hp]
  obtain ⟨u, hu, humsg, hufrag, hulen, hutot, hupay, hupad, husum, hustored, -, -, huframe⟩ :=
    (fmtDataBuildsTheDataFrame t (legal_of_params_eq hlegal hp)).1 hfits'
  rw [hfrag, hlen] at hupay hupad
  have hle := hfits.trans (frameCap_le_capacity s _)
  refine ⟨u, hu, ⟨by rw [huframe, hp], humsg.trans hmsg, hufrag.trans hfrag, hulen.trans hlen, fun hzero => ?_,
    fun j hj => ?_⟩, checksumValid_of_stored husum hustored, hupad⟩
  · rw [hutot (State.fragSeq_eq_zero.2 (hfrag.trans hzero)), htot, if_pos hzero]
  · rw [hupay j hj, hpb j (by omega), if_pos hj]

/-- Settles O43: the frame FMT_DATA rebuilds has the parsed fields, zero padding and a checksum of its own bytes, so it
differs from the parsed one in the padding or not at all. -/
theorem formatAndParseRoundTrip : Obligations.FormatAndParseRoundTrip := by
  refine ⟨fun s t => exec_parseData_of_fmtData, fun s t => exec_parseAck_of_fmtAck, fun s t hlegal h herr => ?_⟩
  obtain ⟨hv, -⟩ := valid_and_fits_of_err_eq_none h herr
  obtain ⟨u, hu, hfields, hvu, hpad⟩ := exec_fmtData_of_parseData hlegal h herr
  refine ⟨u, hu, fun hsame i hi hF => (hsame i hF).symm.trans (hpad i hi), fun hzero i _ => ?_⟩
  refine fb_eq_of_covered_eq hfields.params hv hvu (fun k hk => ?_) i
  rcases Nat.lt_or_ge k (frameStart (LE32At s 6) + (s.fb 10).toNat) with hlt | hge
  · exact hfields.fb_eq hk hlt
  · rcases Nat.lt_or_ge k s.params.frameSize with hF | hend
    · rw [hpad k hge, hzero k hge hF]
    · rw [hpad k hge, s.fb_of_le hend]

end Sys2Proof.Machine
end

section
/-! The fragment arithmetic as a tiling of the message, the two fragment commands by their results, and that the slices
they give fit the data frames (43_fragment.md R160 to R166). -/

namespace Sys2Proof.Machine

open Sys2Proof Sys2Proof.Safety

/-! ### The slices tile the message -/

theorem State.offOf_zero (s : State) : s.offOf 0 = 0 := rfl

theorem State.offOf_succ (s : State) (k : Nat) : s.offOf (k + 1) = (k + 1) * s.capacity - 4 := rfl

theorem frameCap_zero (s : State) : frameCap s 0 = s.capacity - 4 := rfl

theorem frameCap_succ (s : State) (k : Nat) : frameCap s (k + 1) = s.capacity := rfl

/-- A slice is as long as its frame holds or as the message lasts, in fragment 0 as in the others. -/
theorem State.lenOf_eq_min (s : State) (n k : Nat) : s.lenOf n k = min (frameCap s k) (n - s.offOf k) := by
  cases k with
  | zero => exact Nat.min_comm _ _
  | succ k => rfl

/-- 43_fragment.md R161 with the offset of a later fragment written out. -/
theorem State.lenOf_eq_ite (s : State) (n k : Nat) :
    s.lenOf n k = if k = 0 then min n (s.capacity - 4) else min s.capacity (n - (k * s.capacity - 4)) := by
  cases k <;> rfl

theorem State.lenOf_le_frameCap (s : State) (n k : Nat) : s.lenOf n k ≤ frameCap s k := by
  rw [State.lenOf_eq_min]
  exact Nat.min_le_left _ _

/-- A fragment starts where a full fragment before it ends. -/
theorem State.offOf_succ_eq_add {s : State} (hlegal : s.params.Legal) (k : Nat) :
    s.offOf (k + 1) = s.offOf k + frameCap s k := by
  have h4 := State.le_capacity hlegal
  cases k with
  | zero => rw [State.offOf_zero, frameCap_zero, State.offOf_succ, Nat.one_mul, Nat.zero_add]
  | succ k =>
    have hone : s.capacity ≤ (k + 1) * s.capacity := Nat.le_mul_of_pos_left _ k.succ_pos
    rw [State.offOf_succ, State.offOf_succ, frameCap_succ, Nat.add_mul (k + 1) 1]
    omega

/-- The first `M` frames together hold what comes before fragment `M`. -/
theorem sum_frameCap {s : State} (hlegal : s.params.Legal) (M : Nat) :
    ∑ k ∈ Finset.range M, frameCap s k = s.offOf M := by
  induction M with
  | zero => rfl
  | succ M ih => rw [Finset.sum_range_succ, ih, State.offOf_succ_eq_add hlegal]

theorem State.countOf_pos {s : State} (hlegal : s.params.Legal) (n : Nat) : 0 < s.countOf n := by
  rw [State.lt_countOf_iff hlegal]
  omega

/-- `M` frames hold a message exactly when they are no fewer than its fragments. -/
theorem State.countOf_le_iff {s : State} (hlegal : s.params.Legal) {n M : Nat} (hM : 1 ≤ M) :
    s.countOf n ≤ M ↔ n ≤ s.offOf M := by
  have hcap : 4 ≤ M * s.capacity := (State.le_capacity hlegal).trans (Nat.le_mul_of_pos_left _ hM)
  rw [← Nat.not_lt, State.lt_countOf_iff hlegal, State.offOf, if_neg (by omega)]
  omega

theorem State.offOf_le {s : State} (hlegal : s.params.Legal) {n k : Nat} (hk : k < s.countOf n) : s.offOf k ≤ n := by
  have := State.offOf_lt hlegal hk
  omega

theorem State.le_offOf_countOf {s : State} (hlegal : s.params.Legal) (n : Nat) : n ≤ s.offOf (s.countOf n) :=
  (State.countOf_le_iff hlegal (State.countOf_pos hlegal n)).1 le_rfl

/-- A slice ends where the next one starts, or with the message. -/
theorem State.offOf_add_lenOf {s : State} (hlegal : s.params.Legal) {n k : Nat} (hk : k < s.countOf n) :
    s.offOf k + s.lenOf n k = min n (s.offOf (k + 1)) := by
  have hoff := State.offOf_le hlegal hk
  rw [State.lenOf_eq_min, State.offOf_succ_eq_add hlegal]
  omega

theorem State.lenOf_eq_frameCap {s : State} (hlegal : s.params.Legal) {n k : Nat} (hk : k + 1 < s.countOf n) :
    s.lenOf n k = frameCap s k := by
  have hnext := State.offOf_le hlegal hk
  rw [State.offOf_succ_eq_add hlegal] at hnext
  rw [State.lenOf_eq_min]
  omega

/-- The last slice ends with the message. -/
theorem State.offOf_add_lenOf_last {s : State} (hlegal : s.params.Legal) (n : Nat) :
    s.offOf (s.countOf n - 1) + s.lenOf n (s.countOf n - 1) = n := by
  have hpos := State.countOf_pos hlegal n
  rw [State.offOf_add_lenOf hlegal (by omega), Nat.sub_add_cancel hpos]
  exact Nat.min_eq_left (State.le_offOf_countOf hlegal n)

theorem State.lenOf_last_pos {s : State} (hlegal : s.params.Legal) {n : Nat} (hn : n ≠ 0) :
    1 ≤ s.lenOf n (s.countOf n - 1) := by
  have hpos := State.countOf_pos hlegal n
  have hend := State.offOf_add_lenOf_last hlegal n
  have hstart := State.offOf_lt (n := n) hlegal (Nat.sub_lt hpos Nat.one_pos)
  omega

/-- The slices before fragment `M` are the message up to where fragment `M` starts. -/
theorem State.sum_lenOf_range {s : State} (hlegal : s.params.Legal) {n M : Nat} (hM : M ≤ s.countOf n) :
    ∑ k ∈ Finset.range M, s.lenOf n k = min n (s.offOf M) := by
  induction M with
  | zero => simp [State.offOf_zero]
  | succ M ih =>
    rw [Finset.sum_range_succ, ih (by omega), Nat.min_eq_right (State.offOf_le hlegal hM),
      State.offOf_add_lenOf hlegal hM]

theorem State.sum_lenOf {s : State} (hlegal : s.params.Legal) (n : Nat) :
    ∑ k ∈ Finset.range (s.countOf n), s.lenOf n k = n := by
  rw [State.sum_lenOf_range hlegal le_rfl, Nat.min_eq_left (State.le_offOf_countOf hlegal n)]

theorem State.countOf_zero {s : State} (hlegal : s.params.Legal) : s.countOf 0 = 1 :=
  Nat.le_antisymm ((State.countOf_le_iff hlegal le_rfl).2 (Nat.zero_le _)) (State.countOf_pos hlegal 0)

theorem State.lenOf_zero (s : State) (k : Nat) : s.lenOf 0 k = 0 := by
  rw [State.lenOf_eq_min, Nat.zero_sub, Nat.min_zero]

/-! ### The fragment commands by their results -/

/-- Reporting `c` in a state with the `STATUS` of `s` writes `STATUS.ERR` alone (10_state.md R27). -/
theorem statusAfter_setErr {s b : State} (h : b.status = s.status) (c : ErrCode) :
    StatusAfter s (b.setErr c) s.ckOk s.hasTotal c.code := by
  refine ⟨?_, ?_, State.err_setErr b c, ?_⟩
  · rw [State.ckOk_setErr, State.ckOk, State.ckOk, h]
  · rw [State.hasTotal_setErr, State.hasTotal, State.hasTotal, h]
  · rw [State.statusReserved_setErr, State.statusReserved, State.statusReserved, h]

theorem exec_fragCount_counts {s : State} (hlegal : s.params.Legal) (hn : s.msgLen.toNat ≤ s.params.maxMsg) :
    ∃ t, exec .fragCount s = .next t ∧ t.fragCnt.toNat = s.countOf s.msgLen.toNat ∧
      StatusAfter s t s.ckOk s.hasTotal 0#4 ∧ t = { s with fragCnt := t.fragCnt, status := t.status } := by
  obtain ⟨hbig, -⟩ | ⟨-, h⟩ := exec_fragCount s
  · omega
  · exact ⟨_, h, State.recordCount_toNat hlegal hn, statusAfter_setErr rfl .none, rfl⟩

theorem exec_fragCount_oversize {s : State} (hn : s.params.maxMsg < s.msgLen.toNat) :
    exec .fragCount s = .next (s.setErr .oversize) := by
  obtain ⟨-, h⟩ | ⟨hsmall, -⟩ := exec_fragCount s
  · exact h
  · omega

theorem exec_fragSlice_oversize {s : State} (hn : s.params.maxMsg < s.msgLen.toNat) :
    exec .fragSlice s = .next (s.setErr .oversize) := by
  obtain ⟨-, h⟩ | ⟨hsmall, -⟩ | ⟨hsmall, -⟩ := exec_fragSlice s
  · exact h
  · omega
  · omega

theorem exec_fragSlice_beyond {s : State} (hn : s.msgLen.toNat ≤ s.params.maxMsg)
    (hk : s.countOf s.msgLen.toNat ≤ s.fragIdx.toNat) :
    exec .fragSlice s = .next (s.recordCount.setErr .fragRange) := by
  obtain ⟨hbig, -⟩ | ⟨-, -, h⟩ | ⟨-, hin, -⟩ := exec_fragSlice s
  · omega
  · exact h
  · omega

theorem exec_fragSlice_locates {s : State} (hlegal : s.params.Legal) (hn : s.msgLen.toNat ≤ s.params.maxMsg)
    (hk : s.fragIdx.toNat < s.countOf s.msgLen.toNat) :
    ∃ t, exec .fragSlice s = .next t ∧ t.fragCnt.toNat = s.countOf s.msgLen.toNat ∧
      t.sliceOff.toNat = s.offOf s.fragIdx.toNat ∧ t.sliceLen.toNat = s.lenOf s.msgLen.toNat s.fragIdx.toNat ∧
      StatusAfter s t s.ckOk s.hasTotal 0#4 ∧
      t = { s with fragCnt := t.fragCnt, sliceOff := t.sliceOff, sliceLen := t.sliceLen, status := t.status } := by
  obtain ⟨hbig, -⟩ | ⟨-, hout, -⟩ | ⟨-, -, h⟩ := exec_fragSlice s
  · omega
  · omega
  · exact ⟨_, h, State.recordCount_toNat hlegal hn, State.recordSlice_off_toNat (s := s.recordCount) hlegal hn hk,
      State.recordSlice_len_toNat (s := s.recordCount) hlegal, statusAfter_setErr rfl .none, rfl⟩

/-- FRAG_SLICE ends with `NONE` only for a fragment of an accepted message (43_fragment.md R163). -/
theorem index_in_message_of_err_eq_none {s t : State} (h : exec .fragSlice s = .next t) (herr : t.err = 0#4) :
    s.msgLen.toNat ≤ s.params.maxMsg ∧ s.fragIdx.toNat < s.countOf s.msgLen.toNat := by
  obtain ⟨-, h'⟩ | ⟨-, -, h'⟩ | ⟨hn, hk, -⟩ := exec_fragSlice s
  · rw [exec_next_unique h h', State.err_setErr] at herr
    exact absurd herr (by decide)
  · rw [exec_next_unique h h', State.err_setErr] at herr
    exact absurd herr (by decide)
  · exact ⟨hn, hk⟩

/-- FRAG_SLICE with each index below the count gives that fragment's slice: the count fits in `FRAGIDX`. -/
theorem exec_fragSlice_index {s : State} (hlegal : s.params.Legal) (hn : s.msgLen.toNat ≤ s.params.maxMsg) {k : Nat}
    (hk : k < s.countOf s.msgLen.toNat) :
    ∃ t, exec .fragSlice { s with fragIdx := BitVec.ofNat 32 k } = .next t ∧ t.err = 0#4 ∧
      t.fragCnt.toNat = s.countOf s.msgLen.toNat ∧ t.sliceOff.toNat = s.offOf k ∧
      t.sliceLen.toNat = s.lenOf s.msgLen.toNat k := by
  have hidx : (BitVec.ofNat 32 k).toNat = k := by
    rw [BitVec.toNat_ofNat, Nat.mod_eq_of_lt (hk.trans (State.countOf_lt hlegal hn))]
  obtain ⟨t, h, hcnt, hoff, hlen, ⟨-, -, herr, -⟩, -⟩ :=
    exec_fragSlice_locates (s := { s with fragIdx := BitVec.ofNat 32 k }) hlegal hn (hidx.symm ▸ hk)
  rw [hidx] at hoff hlen
  exact ⟨t, h, herr, hcnt, hoff, hlen⟩

/-! ### The rules of the fragment commands and of their slices -/

/-- Settles O48: the count of an accepted size fits in `FRAGCNT`. -/
theorem fragCountWritesTheCount : Obligations.FragCountWritesTheCount := by
  intro s hlegal
  refine ⟨exec_fragCount_counts hlegal, fun hbig => ?_⟩
  exact ⟨_, exec_fragCount_oversize hbig, statusAfter_setErr rfl .oversize, rfl⟩

/-- Settles O49: one outcome per branch of FRAG_SLICE, none of whose results wraps. -/
theorem fragSliceLocatesTheFragment : Obligations.FragSliceLocatesTheFragment := by
  rintro s n k cap cnt hlegal rfl rfl rfl rfl
  refine ⟨fun hbig => ?_, fun hn hk => ?_, fun hn hk => ?_⟩
  · exact ⟨_, exec_fragSlice_oversize hbig, statusAfter_setErr rfl .oversize, rfl⟩
  · exact ⟨_, exec_fragSlice_beyond hn hk, State.recordCount_toNat hlegal hn, statusAfter_setErr rfl .fragRange, rfl⟩
  · obtain ⟨t, h, hcnt, hoff, hlen, hstatus, hframe⟩ := exec_fragSlice_locates hlegal hn hk
    exact ⟨t, h, hcnt, hoff, hlen.trans (s.lenOf_eq_ite _ _), hstatus, hframe⟩

/-- Settles O50: the slices are those of the fragment arithmetic, whose sum up to a fragment is that fragment's offset,
which is also what the frames before it hold. -/
theorem slicesTileTheMessage : Obligations.SlicesTileTheMessage := by
  intro s hlegal hn
  refine ⟨s.countOf s.msgLen.toNat, s.offOf, s.lenOf s.msgLen.toNat, State.countOf_pos hlegal _, s.offOf_zero,
    fun k => exec_fragSlice_index hlegal hn, fun k _ => s.lenOf_le_frameCap _ k, fun k hk => ?_,
    State.offOf_add_lenOf_last hlegal _, State.lenOf_last_pos hlegal, State.sum_lenOf hlegal _, fun M hheld hM => ?_⟩
  · have hfull := State.lenOf_eq_frameCap hlegal hk
    exact ⟨hfull, by rw [hfull, State.offOf_succ_eq_add hlegal]⟩
  · rw [sum_frameCap hlegal] at hheld
    exact (State.countOf_le_iff hlegal hM).2 hheld

/-- Settles O51: one frame holds the empty message, and each of its slices is empty. -/
theorem emptyMessageIsOneEmptyFragment : Obligations.EmptyMessageIsOneEmptyFragment := by
  intro s hlegal hempty
  have hlen0 : s.msgLen.toNat = 0 := by rw [hempty]; rfl
  have hn : s.msgLen.toNat ≤ s.params.maxMsg := hlen0 ▸ Nat.zero_le _
  have hone : s.countOf s.msgLen.toNat = 1 := hlen0 ▸ State.countOf_zero hlegal
  refine ⟨?_, fun hfirst => ?_⟩
  · obtain ⟨t, h, hcnt, ⟨-, -, herr, -⟩, -⟩ := exec_fragCount_counts hlegal hn
    exact ⟨t, h, herr, BitVec.eq_of_toNat_eq (hcnt.trans hone)⟩
  · have hidx : s.fragIdx.toNat = 0 := by rw [hfirst]; rfl
    obtain ⟨t, h, hcnt, hoff, hlen, ⟨-, -, herr, -⟩, -⟩ := exec_fragSlice_locates hlegal hn (by omega)
    rw [hidx, State.offOf_zero] at hoff
    rw [hlen0, State.lenOf_zero] at hlen
    exact ⟨t, h, herr, BitVec.eq_of_toNat_eq (hcnt.trans hone), BitVec.eq_of_toNat_eq hoff,
      BitVec.eq_of_toNat_eq hlen⟩

/-- Settles O52: the length of a slice is at most the capacity that FMT_DATA checks `PLEN` against. -/
theorem locatedSlicesCanBeFormatted : Obligations.LocatedSlicesCanBeFormatted := by
  intro s t hlegal h herr
  obtain ⟨hn, hk⟩ := index_in_message_of_err_eq_none h herr
  obtain ⟨t', h', -, -, hlen, -, hframe⟩ := exec_fragSlice_locates hlegal hn hk
  obtain rfl := exec_next_unique h h'
  have hp : t.params = s.params := by rw [hframe]
  have hidx : t.fragIdx = s.fragIdx := by rw [hframe]
  have hfits : t.sliceLen.toNat ≤ frameCap t t.fragIdx.toNat := by
    rw [hlen, hidx, frameCap_congr hp]
    exact s.lenOf_le_frameCap _ _
  exact ⟨_, exec_fmtData_fits (s := { t with fragSeq := t.fragIdx, plen := t.sliceLen }) hfits,
    State.err_setErr _ .none⟩

end Sys2Proof.Machine
end

section
/-! NOP and CLEAR (44_control.md R180, R181): CLEAR zeroes each byte that backs a buffer, and a sound state lists no
other. -/

namespace Sys2Proof.Machine

open Sys2Proof Sys2Proof.Safety

/-- Settles O53: NOP reports `NONE` and does nothing else. -/
theorem nopClearsErrOnly : Obligations.NopClearsErrOnly := by
  intro s
  exact ⟨_, exec_nop s, statusAfter_setErr rfl .none, rfl⟩

/-! ### The zeroed buffers -/

/-- CLEAR writes 0 to both windows and leaves every other address. -/
theorem State.read_zeroBuffers (s : State) (a : Nat) :
    Memory.read s.zeroBuffers.mem a =
      if (pbBase ≤ a ∧ a < pbBase + s.capacity) ∨ (fbBase ≤ a ∧ a < fbBase + s.params.frameSize) then 0#8
      else Memory.read s.mem a := by
  rw [State.zeroBuffers, State.read_fillPb, State.read_fillFb, State.fillFb_capacity, Nat.add_zero, ite_or]

theorem State.fb_zeroBuffers (s : State) (i : Nat) : s.zeroBuffers.fb i = 0#8 := by
  by_cases hi : i < s.params.frameSize
  · rw [State.fb, State.zeroBuffers_params, if_pos hi, State.read_zeroBuffers, if_pos (.inr (by omega))]
  · exact State.fb_of_le _ (by rw [State.zeroBuffers_params]; omega)

theorem State.pb_zeroBuffers (s : State) (j : Nat) : s.zeroBuffers.pb j = 0#8 := by
  rw [State.zeroBuffers, State.pb_fillPb, ite_self]

/-- What the memory still lists after CLEAR is nonzero and backs a buffer, and CLEAR left no such byte. -/
theorem State.zeroBuffers_mem_of_memOk {s : State} (h : MemOk s) : s.zeroBuffers.mem = [] := by
  obtain ⟨hwf, hbacked⟩ := memOk_zeroBuffers h
  refine List.eq_nil_iff_forall_not_mem.2 fun c hc => hwf.2 c hc ?_
  rw [← Memory.read_eq_of_mem hwf hc, State.read_zeroBuffers]
  exact if_pos (hbacked c hc)

/-! ### The cleared state -/

/-- The state CLEAR leaves (44_control.md R181). -/
def State.cleared (s : State) : State :=
  ((s.zeroBuffers.zeroRegisters.setCkOk false).setHasTotal false).setErr .none

theorem exec_clear_cleared (s : State) : exec .clear s = .next s.cleared := exec_clear s

theorem State.fb_cleared (s : State) (i : Nat) : s.cleared.fb i = 0#8 :=
  s.fb_zeroBuffers i

theorem State.pb_cleared (s : State) (j : Nat) : s.cleared.pb j = 0#8 :=
  s.pb_zeroBuffers j

theorem statusAfter_cleared (s : State) : StatusAfter s s.cleared false false 0#4 := by
  simp [StatusAfter, State.cleared, ErrCode.code]

theorem statusReserved_resetOf (p : Params) : (State.resetOf p).statusReserved = 0#2 := by
  simp [State.statusReserved, State.resetOf]

/-- With the reserved bits 0, as a sound state has them, CLEAR leaves the reset value of `STATUS`. -/
theorem State.status_cleared {s : State} (hres : s.statusReserved = 0#2) : s.cleared.status = 0#8 := by
  obtain ⟨hck, htot, herr, hkept⟩ := statusAfter_cleared s
  exact State.status_ext (s := State.resetOf s.params) (hck.trans (ckOk_resetOf _).symm)
    (htot.trans (hasTotal_resetOf _).symm) (hkept.trans (hres.trans (statusReserved_resetOf _).symm))
    (herr.trans (err_resetOf _).symm)

/-- Memory and `STATUS` are those of reset by soundness, the registers in every state. -/
theorem State.cleared_eq_resetOf {s : State} (hsound : Sound s) :
    s.cleared = { State.resetOf s.params with pending := s.pending, reply := s.reply } := by
  ext1
  case mem => exact State.zeroBuffers_mem_of_memOk ⟨hsound.canonical, hsound.backed⟩
  case status => exact State.status_cleared hsound.reservedZero
  all_goals rfl

/-- Settles O54: the cleared state by its bytes and fields, and from a sound state as a whole. -/
theorem clearReturnsToTheResetState : Obligations.ClearReturnsToTheResetState := by
  refine ⟨fun s => ?_, fun s hsound => ?_⟩
  · exact ⟨s.cleared, exec_clear_cleared s, s.fb_cleared, s.pb_cleared, rfl, statusAfter_cleared s,
      rfl, rfl, rfl, rfl, rfl, rfl, rfl, rfl, rfl, rfl⟩
  · rw [exec_clear_cleared, State.cleared_eq_resetOf hsound]

end Sys2Proof.Machine
end

section
/-! The codes with which commands end, and that nothing stops one (60_exceptions.md R200 to R202, R205). -/

namespace Sys2Proof.Machine

open Sys2Proof Sys2Proof.Safety

/-! ### The end of a command -/

/-- The column "raised by" of 60_exceptions.md R201, for the commands. `NONE` is the code of a command that raises no
error; `ILLEGAL_CMD` comes from the words that are no command. -/
def ErrCode.RaisedBy : ErrCode → Instr → Prop
  | .none, _ => True
  | .illegalCmd, _ => False
  | .badChecksum, i => i ∈ [Instr.verify, .parseData, .parseAck]
  | .malformed, i => i ∈ [Instr.parseData, .parseAck]
  | .plenRange, i => i = .fmtData
  | .oversize, i => i ∈ [Instr.fragCount, .fragSlice]
  | .fragRange, i => i = .fragSlice

/-- Every outcome of every command ends in a write of a code of its own to `STATUS.ERR`, and no write before it touches
the parameters, the inputs still to come or the data returned (60_exceptions.md R200, R201; logs 3, 5). -/
theorem exec_ends (i : Instr) (s : State) :
    ∃ (u : State) (c : ErrCode), exec i s = .next (u.setErr c) ∧ c.RaisedBy i ∧
      u.params = s.params ∧ u.pending = s.pending ∧ u.reply = s.reply := by
  cases i with
  | nop => exact ⟨_, _, exec_nop s, trivial, rfl, rfl, rfl⟩
  | csum => exact ⟨_, _, exec_csum s, trivial, rfl, rfl, rfl⟩
  | verify =>
    obtain ⟨-, h⟩ | ⟨-, h⟩ := exec_verify s <;> exact ⟨_, _, h, by simp [ErrCode.RaisedBy]⟩
  | sealFrame => exact ⟨_, _, exec_seal s, trivial, by simp⟩
  | fmtData =>
    obtain ⟨-, h⟩ | ⟨-, h⟩ := exec_fmtData s <;> exact ⟨_, _, h, by simp [ErrCode.RaisedBy]⟩
  | fmtAck => exact ⟨_, _, exec_fmtAck s, trivial, by simp⟩
  | parseData =>
    obtain ⟨-, h⟩ | ⟨-, -, h⟩ | ⟨-, -, h⟩ := exec_parseData s <;> exact ⟨_, _, h, by simp [ErrCode.RaisedBy]⟩
  | parseAck =>
    obtain ⟨-, h⟩ | ⟨-, -, h⟩ | ⟨-, -, h⟩ := exec_parseAck s <;> exact ⟨_, _, h, by simp [ErrCode.RaisedBy]⟩
  | fragCount =>
    obtain ⟨-, h⟩ | ⟨-, h⟩ := exec_fragCount s <;> exact ⟨_, _, h, by simp [ErrCode.RaisedBy]⟩
  | fragSlice =>
    obtain ⟨-, h⟩ | ⟨-, -, h⟩ | ⟨-, -, h⟩ := exec_fragSlice s <;> exact ⟨_, _, h, by simp [ErrCode.RaisedBy]⟩
  | clear => exact ⟨_, _, exec_clear s, trivial, by simp⟩

/-- No two errors share a code (60_exceptions.md R201). -/
theorem ErrCode.code_injective : Function.Injective ErrCode.code := by
  intro c d
  cases c <;> cases d <;> decide

/-- The code found in `STATUS.ERR` after a command is at most 6 and tells which commands can have raised it. -/
theorem exec_err_raisedBy {i : Instr} {s t : State} (h : exec i s = .next t) :
    t.err.toNat ≤ 6 ∧ ∀ d : ErrCode, t.err = d.code → d.RaisedBy i := by
  obtain ⟨u, c, hu, hc, -⟩ := exec_ends i s
  obtain rfl := exec_next_unique h hu
  rw [State.err_setErr]
  exact ⟨c.code_le, fun d hd => ErrCode.code_injective hd ▸ hc⟩

/-- Settles O55: clause by clause, the rows of the table. -/
theorem errorCodesComeFromTheirCommands : Obligations.ErrorCodesComeFromTheirCommands := by
  intro i s t h
  obtain ⟨hle, hraised⟩ := exec_err_raisedBy h
  exact ⟨hle, hraised .illegalCmd, hraised .badChecksum, hraised .malformed, hraised .plenRange, hraised .oversize,
    hraised .fragRange⟩

/-- Settles O8: the write of `ERR` that ends a command keeps what the writes before it keep. -/
theorem everyCommandCompletes : Obligations.EveryCommandCompletes := by
  intro i s
  obtain ⟨u, c, hu, -, hparams, hpending, hreply⟩ := exec_ends i s
  exact ⟨_, hu, hpending, hreply, hparams⟩

/-- Both parsers check the checksum before they look at the payload length (60_exceptions.md R202). -/
theorem exec_parse_reports_badChecksum {i : Instr} {s : State} (hi : i = .parseData ∨ i = .parseAck)
    (hv : ¬ ChecksumValid s) : ∃ t, exec i s = .next t ∧ t.err = 2#4 :=
  ⟨_, exec_parse_rejects hi hv, State.err_setErr _ .badChecksum⟩

/-- Settles O56: an invalid frame is rejected whatever its payload length, an oversize message whatever its index. -/
theorem firstErrorConditionIsReported : Obligations.FirstErrorConditionIsReported :=
  ⟨fun _ hv _ => exec_parse_reports_badChecksum (.inl rfl) hv,
    fun _ hv _ => exec_parse_reports_badChecksum (.inr rfl) hv,
    fun _ hlong _ => ⟨_, exec_fragSlice_oversize hlong, State.err_setErr _ .oversize⟩⟩

/-! ### Every input of a legal instance -/

/-- The outcome is a next state of the instance `s`, with the inputs still to come those of `s`. -/
def CompletesFrom (s : State) (o : Host.Outcome State Fault Refusal) : Prop :=
  ∃ t, o = .next t ∧ t.params = s.params ∧ t.pending = s.pending

theorem State.write32_keeps (s : State) (addr : Nat) (v : Word) :
    (s.write32 addr v).params = s.params ∧ (s.write32 addr v).pending = s.pending := by
  cases h : regAt addr with
  | none => rw [State.write32_of_regAt_none h]; exact ⟨rfl, rfl⟩
  | some r => simp only [State.write32, h]; cases r <;> exact ⟨rfl, rfl⟩

theorem State.write8_keeps (s : State) (addr : Nat) (b : Byte) :
    (s.write8 addr b).params = s.params ∧ (s.write8 addr b).pending = s.pending := by
  unfold State.write8
  split_ifs <;> simp

theorem runCommand_completesFrom (w : Word) (s : State) : CompletesFrom s (runCommand w s) := by
  cases h : decode w with
  | ok i =>
    obtain ⟨t, ht, hpending, -, hparams⟩ := everyCommandCompletes i s
    exact ⟨t, by rw [runCommand_of_decode h, ht], hparams, hpending⟩
  | error e => exact ⟨_, runCommand_of_illegal h s, rfl, rfl⟩

theorem performAccess_completesFrom (a : Access) (s : State) : CompletesFrom s (performAccess a s) := by
  cases a with
  | read32 addr => exact ⟨_, rfl, rfl, rfl⟩
  | read8 addr => exact ⟨_, rfl, rfl, rfl⟩
  | write8 addr b =>
    refine ⟨_, rfl, ?_⟩
    split
    · exact s.write8_keeps addr b
    · exact ⟨rfl, rfl⟩
  | write32 addr v =>
    rw [performAccess_write32]
    split
    · exact runCommand_completesFrom v (s.answer .noData)
    · exact ⟨_, rfl, s.write32_keeps addr v⟩

theorem performInput_completesFrom (i : Input) (s : State) : CompletesFrom s (performInput i s) := by
  cases i with
  | access a => exact performAccess_completesFrom a s
  | reset => exact ⟨_, rfl, rfl, rfl⟩

/-- Settles O7: the input is taken off the queue and then performed, and with none the state is answered as it is. -/
theorem everyInputOfALegalInstanceCompletes : Obligations.EveryInputOfALegalInstanceCompletes := by
  intro s hlegal
  rw [step_of_legal hlegal]
  cases h : s.pending with
  | nil => exact ⟨s, performNext_of_pending_nil h, rfl, h⟩
  | cons i rest =>
    rw [performNext_of_pending_cons h]
    exact performInput_completesFrom i { s with pending := rest }

end Sys2Proof.Machine
end

section
/-! What `STATUS` holds before a command enters neither the code it reports nor what it writes elsewhere
(60_exceptions.md R206). -/

namespace Sys2Proof.Machine

open Sys2Proof Sys2Proof.Safety

/-- The state with the value `v` in `STATUS`. -/
def State.withStatus (s : State) (v : BitVec 8) : State := { s with status := v }

/-! ### What the commands read and write, with another value in `STATUS` -/

@[simp] theorem State.withStatus_params (s : State) (v : BitVec 8) : (s.withStatus v).params = s.params := rfl
@[simp] theorem State.withStatus_msgSeq (s : State) (v : BitVec 8) : (s.withStatus v).msgSeq = s.msgSeq := rfl
@[simp] theorem State.withStatus_fragSeq (s : State) (v : BitVec 8) : (s.withStatus v).fragSeq = s.fragSeq := rfl
@[simp] theorem State.withStatus_plen (s : State) (v : BitVec 8) : (s.withStatus v).plen = s.plen := rfl
@[simp] theorem State.withStatus_totSize (s : State) (v : BitVec 8) : (s.withStatus v).totSize = s.totSize := rfl

theorem State.csum_withStatus (s : State) (v : BitVec 8) : (s.withStatus v).csum = s.csum :=
  State.csum_congr rfl (fun _ _ => rfl)

theorem State.recordCsum_withStatus (s : State) (v : BitVec 8) :
    (s.withStatus v).recordCsum = s.recordCsum.withStatus v := by
  rw [State.recordCsum, State.csum_withStatus]; rfl

theorem State.setFb_withStatus (s : State) (v : BitVec 8) (i : Nat) (b : Byte) :
    (s.withStatus v).setFb i b = (s.setFb i b).withStatus v := by
  by_cases hi : i < s.params.frameSize
  · rw [State.setFb, State.setFb, if_pos hi, State.withStatus_params, if_pos hi]; rfl
  · rw [State.setFb, State.setFb, if_neg hi, State.withStatus_params, if_neg hi]

theorem State.putLE16_withStatus (s : State) (v : BitVec 8) (a : Nat) (x : Half) :
    (s.withStatus v).putLE16 a x = (s.putLE16 a x).withStatus v := by
  simp only [State.putLE16, State.setFb_withStatus]

theorem State.putLE32_withStatus (s : State) (v : BitVec 8) (a : Nat) (x : Word) :
    (s.withStatus v).putLE32 a x = (s.putLE32 a x).withStatus v := by
  simp only [State.putLE32, State.setFb_withStatus]

theorem State.fillFb_withStatus (s : State) (v : BitVec 8) (a : Nat) (f : Nat → Byte) (n : Nat) :
    (s.withStatus v).fillFb a f n = (s.fillFb a f n).withStatus v := rfl

theorem State.putHeader_withStatus (s : State) (v : BitVec 8) (len : Byte) :
    (s.withStatus v).putHeader len = (s.putHeader len).withStatus v := by
  simp only [State.putHeader, State.withStatus_params, State.withStatus_msgSeq, State.withStatus_fragSeq,
    State.fillFb_withStatus, State.putLE32_withStatus, State.setFb_withStatus]

theorem State.putTotal_withStatus (s : State) (v : BitVec 8) :
    (s.withStatus v).putTotal = s.putTotal.withStatus v := by
  simp only [State.putTotal, State.withStatus_fragSeq, State.withStatus_totSize, State.putLE32_withStatus]
  split <;> rfl

theorem State.putPayload_withStatus (s : State) (v : BitVec 8) :
    (s.withStatus v).putPayload = s.putPayload.withStatus v := rfl

theorem State.dataBody_withStatus (s : State) (v : BitVec 8) :
    (s.withStatus v).dataBody = s.dataBody.withStatus v := by
  simp only [State.dataBody, State.withStatus_plen, State.putHeader_withStatus, State.putTotal_withStatus,
    State.putPayload_withStatus]

theorem State.sealFrame_withStatus (s : State) (v : BitVec 8) :
    (s.withStatus v).sealFrame = s.sealFrame.withStatus v := by
  rw [State.sealFrame, State.csum_withStatus, State.putLE16_withStatus]; rfl

theorem State.loadPayload_withStatus (s : State) (v : BitVec 8) :
    (s.withStatus v).loadPayload = s.loadPayload.withStatus v := rfl

/-! ### The writes of `CK_OK` and `HAS_TOTAL`: only in `STATUS` can what they leave differ -/

theorem State.setCkOk_withStatus (s : State) (v : BitVec 8) (ck : Bool) :
    (s.withStatus v).setCkOk ck = (s.setCkOk ck).withStatus ((s.withStatus v).setCkOk ck).status := rfl

theorem State.setHasTotal_withStatus (s : State) (v : BitVec 8) (tot : Bool) :
    (s.withStatus v).setHasTotal tot = (s.setHasTotal tot).withStatus ((s.withStatus v).setHasTotal tot).status := rfl

theorem State.loadTotal_of_zero (s : State) (h : s.fragSeq = 0#32) :
    s.loadTotal = ({ s with totSize := s.frameTotSize }).setHasTotal true := if_pos h

theorem State.loadTotal_of_ne_zero (s : State) (h : s.fragSeq ≠ 0#32) : s.loadTotal = s.setHasTotal false := if_neg h

theorem State.loadTotal_withStatus (s : State) (v : BitVec 8) :
    (s.withStatus v).loadTotal = s.loadTotal.withStatus (s.withStatus v).loadTotal.status := by
  by_cases hs : s.fragSeq = 0#32
  · rw [s.loadTotal_of_zero hs, (s.withStatus v).loadTotal_of_zero hs]; rfl
  · rw [s.loadTotal_of_ne_zero hs, (s.withStatus v).loadTotal_of_ne_zero hs]; rfl

theorem State.parsedData_withStatus (s : State) (v : BitVec 8) :
    (s.withStatus v).parsedData = s.parsedData.withStatus (s.withStatus v).parsedData.status := by
  have hload : (s.withStatus v).parsedData =
      ((s.recordCsum.setCkOk true).loadHeader.withStatus ((s.withStatus v).setCkOk true).status).loadTotal := by
    rw [State.parsedData, State.recordCsum_withStatus]; rfl
  rw [hload, State.loadTotal_withStatus]; rfl

theorem State.parsedAck_withStatus (s : State) (v : BitVec 8) :
    (s.withStatus v).parsedAck = s.parsedAck.withStatus (s.withStatus v).parsedAck.status := by
  rw [State.parsedAck, State.recordCsum_withStatus]; rfl

/-! ### The outcome -/

theorem exec_parseAck_malformed {s : State} (hv : ChecksumValid s) (h : s.fb 10 ≠ 0#8) :
    exec .parseAck s = .next (s.parsedAck.setErr .malformed) := by
  obtain ⟨hv', -⟩ | ⟨-, -, h'⟩ | ⟨-, hzero, -⟩ := exec_parseAck s
  · exact absurd hv hv'
  · exact h'
  · exact absurd hzero h

theorem exec_fragCount_accepts {s : State} (hn : s.msgLen.toNat ≤ s.params.maxMsg) :
    exec .fragCount s = .next (s.recordCount.setErr .none) := by
  obtain ⟨hbig, -⟩ | ⟨-, h⟩ := exec_fragCount s
  · omega
  · exact h

theorem exec_fragSlice_inside {s : State} (hn : s.msgLen.toNat ≤ s.params.maxMsg)
    (hk : s.fragIdx.toNat < s.countOf s.msgLen.toNat) :
    exec .fragSlice s = .next (s.recordCount.recordSlice.setErr .none) := by
  obtain ⟨hbig, -⟩ | ⟨-, hout, -⟩ | ⟨-, -, h⟩ := exec_fragSlice s
  · omega
  · omega
  · exact h

/-- Command `i` has the same outcome from `s` with the value `v` in `STATUS`: the same code, and before it the same
state but for `STATUS`. -/
def IgnoresStatus (i : Instr) (s : State) (v : BitVec 8) : Prop :=
  ∃ (t : State) (c : ErrCode) (w : BitVec 8),
    exec i s = .next (t.setErr c) ∧ exec i (s.withStatus v) = .next ((t.withStatus w).setErr c)

theorem ignoresStatus_of_invalid {i : Instr} {s : State} (hi : i = .parseData ∨ i = .parseAck)
    (hv : ¬ ChecksumValid s) (v : BitVec 8) : IgnoresStatus i s v :=
  ⟨_, _, _, exec_parse_rejects hi hv, by
    rw [exec_parse_rejects (s := s.withStatus v) hi hv, State.rejectFrame, State.recordCsum_withStatus,
      State.setCkOk_withStatus, State.setHasTotal_withStatus]⟩

/-- What a command tests is outside `STATUS`, so both runs take the same branch. -/
theorem exec_ignoresStatus (i : Instr) (s : State) (v : BitVec 8) : IgnoresStatus i s v := by
  cases i with
  | nop => exact ⟨s, .none, v, rfl, rfl⟩
  | csum => exact ⟨_, _, v, exec_csum s, by rw [exec_csum, State.recordCsum_withStatus]⟩
  | verify =>
    obtain ⟨hv, h⟩ | ⟨hv, h⟩ := exec_verify s
    · exact ⟨_, _, _, h, by
        rw [exec_verify_valid (s := s.withStatus v) hv, State.recordCsum_withStatus, State.setCkOk_withStatus]⟩
    · exact ⟨_, _, _, h, by
        rw [exec_verify_invalid (s := s.withStatus v) hv, State.recordCsum_withStatus, State.setCkOk_withStatus]⟩
  | sealFrame => exact ⟨_, _, v, exec_seal s, by rw [exec_seal, State.sealFrame_withStatus]⟩
  | fmtData =>
    obtain ⟨hlong, h⟩ | ⟨hfits, h⟩ := exec_fmtData s
    · exact ⟨s, _, v, h, exec_fmtData_exceeds (s := s.withStatus v) hlong⟩
    · exact ⟨_, _, v, h, by
        rw [exec_fmtData_fits (s := s.withStatus v) hfits, State.dataBody_withStatus, State.sealFrame_withStatus]⟩
  | fmtAck =>
    exact ⟨_, _, v, exec_fmtAck s, by rw [exec_fmtAck, State.putHeader_withStatus, State.sealFrame_withStatus]⟩
  | parseData =>
    obtain ⟨hv, -⟩ | ⟨hv, hlong, h⟩ | ⟨hv, hfits, h⟩ := exec_parseData s
    · exact ignoresStatus_of_invalid (.inl rfl) hv v
    · exact ⟨_, _, _, h, by
        rw [exec_parseData_malformed (s := s.withStatus v) hv hlong, State.parsedData_withStatus]⟩
    · exact ⟨_, _, _, h, by
        rw [exec_parseData_accepts (s := s.withStatus v) hv hfits, State.parsedData_withStatus,
          State.loadPayload_withStatus]⟩
  | parseAck =>
    obtain ⟨hv, -⟩ | ⟨hv, hlen, h⟩ | ⟨hv, hlen, h⟩ := exec_parseAck s
    · exact ignoresStatus_of_invalid (.inr rfl) hv v
    · exact ⟨_, _, _, h, by rw [exec_parseAck_malformed (s := s.withStatus v) hv hlen, State.parsedAck_withStatus]⟩
    · exact ⟨_, _, _, h, by rw [exec_parseAck_accepts (s := s.withStatus v) hv hlen, State.parsedAck_withStatus]⟩
  | fragCount =>
    obtain ⟨hlong, h⟩ | ⟨hn, h⟩ := exec_fragCount s
    · exact ⟨_, _, v, h, exec_fragCount_oversize (s := s.withStatus v) hlong⟩
    · exact ⟨_, _, v, h, exec_fragCount_accepts (s := s.withStatus v) hn⟩
  | fragSlice =>
    obtain ⟨hlong, h⟩ | ⟨hn, hk, h⟩ | ⟨hn, hk, h⟩ := exec_fragSlice s
    · exact ⟨_, _, v, h, exec_fragSlice_oversize (s := s.withStatus v) hlong⟩
    · exact ⟨_, _, v, h, exec_fragSlice_beyond (s := s.withStatus v) hn hk⟩
    · exact ⟨_, _, v, h, exec_fragSlice_inside (s := s.withStatus v) hn hk⟩
  | clear => exact ⟨_, _, _, exec_clear s, rfl⟩

/-- Settles O57: both outcomes are the common state with the common code written to `ERR`. -/
theorem errorsAreNotSticky : Obligations.ErrorsAreNotSticky := by
  intro i s t u v ht hu
  obtain ⟨b, c, w, hs, hr⟩ := exec_ignoresStatus i s v
  obtain rfl := exec_next_unique ht hs
  obtain rfl := exec_next_unique hu hr
  exact ⟨by rw [State.err_setErr, State.err_setErr], rfl⟩

end Sys2Proof.Machine
end

section
/-! The reset input (70_reset_and_hazards.md R230): it depends on the instance and on the queue, and on nothing else that
the state held. -/

namespace Sys2Proof.Machine

open Sys2Proof

theorem performInput_reset (s : State) :
    performInput .reset s = .next { State.resetOf s.params with pending := s.pending } := rfl

/-- Settles O12: the reset is taken off the queue before it is performed, so what stays is the queue behind it. -/
theorem assertedResetGivesTheResetState : Obligations.AssertedResetGivesTheResetState := by
  intro s rest hlegal hpend
  rw [step_of_legal hlegal, performNext_of_pending_cons hpend, performInput_reset]

end Sys2Proof.Machine
end

section
/-! The invariant `Sound` (10_state.md R36, R37; 93_implementation_defined.md I10, I11; log 8): it holds after reset, and
the transition of every command, every other access and the reset keeps it. -/

namespace Sys2Proof.Machine

open Sys2Proof Sys2Proof.Safety

/-! ### The parts of the invariant -/

/-- The part of `Sound` about `STATUS`. -/
def StatusOk (s : State) : Prop := s.statusReserved = 0#2 ∧ s.err.toNat ≤ 6

/-- The part of `Sound` about the registers of the fragment commands. -/
def FragmentOk (s : State) : Prop :=
  s.fragCnt.toNat ≤ s.countOf s.params.maxMsg ∧ s.sliceLen.toNat ≤ s.capacity ∧
    (s.sliceOff = 0#32 ∨ s.sliceOff.toNat < s.params.maxMsg)

theorem sound_iff (s : State) : Sound s ↔ s.params.Legal ∧ MemOk s ∧ StatusOk s ∧ FragmentOk s := by
  constructor
  · rintro ⟨hlegal, hwf, hbacked, hres, herr, hcnt, hlen, hoff⟩
    exact ⟨hlegal, ⟨hwf, hbacked⟩, ⟨hres, herr⟩, hcnt, hlen, hoff⟩
  · rintro ⟨hlegal, ⟨hwf, hbacked⟩, ⟨hres, herr⟩, hcnt, hlen, hoff⟩
    exact ⟨hlegal, hwf, hbacked, hres, herr, hcnt, hlen, hoff⟩

theorem statusOk_congr {s t : State} (h : StatusOk s) (hst : t.status = s.status) : StatusOk t := by
  simpa only [StatusOk, State.statusReserved, State.err, hst] using h

theorem fragmentOk_congr {s t : State} (h : FragmentOk s) (hp : t.params = s.params) (hcnt : t.fragCnt = s.fragCnt)
    (hoff : t.sliceOff = s.sliceOff) (hlen : t.sliceLen = s.sliceLen) : FragmentOk t := by
  simpa only [FragmentOk, State.countOf, State.capacity, hp, hcnt, hoff, hlen] using h

/-- The registers of `t` that `Sound` speaks of are those of `s`. -/
structure SameSoundRegisters (s t : State) : Prop where
  params : t.params = s.params
  status : t.status = s.status
  fragCnt : t.fragCnt = s.fragCnt
  sliceOff : t.sliceOff = s.sliceOff
  sliceLen : t.sliceLen = s.sliceLen

/-- A transition that writes none of those registers has only the memory to answer for. -/
theorem sound_of_sameSoundRegisters {s t : State} (h : Sound s) (hregs : SameSoundRegisters s t) (hmem : MemOk t) :
    Sound t := by
  obtain ⟨hlegal, -, hstatus, hfrag⟩ := (sound_iff s).1 h
  exact (sound_iff t).2 ⟨legal_of_params_eq hlegal hregs.params, hmem, statusOk_congr hstatus hregs.status,
    fragmentOk_congr hfrag hregs.params hregs.fragCnt hregs.sliceOff hregs.sliceLen⟩

/-! ### Reset -/

theorem sound_resetOf {p : Params} (h : p.Legal) : Sound (State.resetOf p) where
  legal := h
  canonical := Memory.wf_nil
  backed := fun _ hc => absurd hc List.not_mem_nil
  reservedZero := statusReserved_resetOf p
  errRange := by rw [err_resetOf]; decide
  fragCntRange := Nat.zero_le _
  sliceLenRange := Nat.zero_le _
  sliceOffRange := .inl rfl

/-- Settles O13: the memory lists no byte, and every bounded register is 0. -/
theorem resetStateIsSound : Obligations.ResetStateIsSound :=
  ⟨fun _ => sound_resetOf, sound_resetOf (by decide)⟩

/-! ### Commands -/

theorem exec_params {i : Instr} {s t : State} (ht : exec i s = .next t) : t.params = s.params := by
  obtain ⟨u, hu, -, -, hp⟩ := everyCommandCompletes i s
  exact exec_next_unique ht hu ▸ hp

theorem memOk_setErr {s : State} (h : MemOk s) (c : ErrCode) : MemOk (s.setErr c) := memOk_congr h rfl rfl

/-- A command whose row of 30_encoding.md R84 lists no buffer leaves the memory as it is. -/
theorem memOk_exec_of_not_mem {i : Instr} {s t : State}
    (hi : i ∉ [Instr.sealFrame, .fmtData, .fmtAck, .parseData, .clear]) (h : MemOk s) (ht : exec i s = .next t) :
    MemOk t := by
  obtain ⟨u, hu, hwrites, -⟩ := exec_bufferWritesAllowed i s
  obtain rfl := exec_next_unique ht hu
  exact memOk_congr h (of_not_not fun hne => hi (hwrites hne)) (exec_params ht)

/-- The commands that write a buffer do so by operations that keep the memory within the buffers. -/
theorem memOk_exec {i : Instr} {s t : State} (h : MemOk s) (ht : exec i s = .next t) : MemOk t := by
  cases i with
  | sealFrame =>
    obtain rfl := exec_next_unique ht (exec_seal s)
    exact memOk_setErr (memOk_sealFrame h) _
  | fmtData =>
    obtain ⟨-, hx⟩ | ⟨hfits, hx⟩ := exec_fmtData s <;> obtain rfl := exec_next_unique ht hx
    · exact memOk_setErr h _
    · exact memOk_setErr (memOk_sealFrame (memOk_dataBody h hfits)) _
  | fmtAck =>
    obtain rfl := exec_next_unique ht (exec_fmtAck s)
    exact memOk_setErr (memOk_sealFrame (memOk_putHeader h)) _
  | parseData =>
    have hparsed : MemOk s.parsedData := memOk_congr h (by simp) (by simp)
    obtain ⟨-, hx⟩ | ⟨-, -, hx⟩ | ⟨-, -, hx⟩ := exec_parseData s <;> obtain rfl := exec_next_unique ht hx
    · exact memOk_congr h rfl rfl
    · exact memOk_setErr hparsed _
    · exact memOk_setErr (memOk_loadPayload hparsed) _
  | clear =>
    obtain rfl := exec_next_unique ht (exec_clear s)
    exact memOk_congr (memOk_zeroBuffers h) (by simp) (by simp)
  | _ => exact memOk_exec_of_not_mem (by decide) h ht

/-- Commands leave the reserved bits as they are and write only the codes 0 to 6 (10_state.md R27; 60_exceptions.md
R201). -/
theorem statusOk_exec {i : Instr} {s t : State} (h : StatusOk s) (ht : exec i s = .next t) : StatusOk t := by
  obtain ⟨hres, -, -⟩ := statusFieldsAreWrittenOnlyByTheirCommands i s t ht
  exact ⟨hres.trans h.1, (exec_err_raisedBy ht).1⟩

/-- The count of an accepted size is at most that of `MAXMSG` (10_state.md R36). -/
theorem fragmentOk_recordCount {s : State} (hlegal : s.params.Legal) (h : FragmentOk s)
    (hn : s.msgLen.toNat ≤ s.params.maxMsg) : FragmentOk s.recordCount := by
  obtain ⟨-, hlen, hoff⟩ := h
  exact ⟨(State.recordCount_toNat hlegal hn).trans_le (State.countOf_mono hn), hlen, hoff⟩

/-- The slice of an index within the message starts at 0 or within the message (10_state.md R37). -/
theorem fragmentOk_recordSlice {s : State} (hlegal : s.params.Legal) (h : FragmentOk s)
    (hn : s.msgLen.toNat ≤ s.params.maxMsg) (hk : s.fragIdx.toNat < s.countOf s.msgLen.toNat) :
    FragmentOk s.recordSlice := by
  have hoff := State.recordSlice_off_toNat hlegal hn hk
  refine ⟨h.1, (State.recordSlice_len_toNat hlegal).trans_le (State.lenOf_le s _ _), ?_⟩
  obtain hzero | hlt := State.offOf_lt hlegal hk
  · exact .inl (BitVec.eq_of_toNat_eq (hoff.trans hzero))
  · exact .inr (hoff.trans_lt (hlt.trans_le hn))

/-- Only FRAG_COUNT, FRAG_SLICE and CLEAR write a register of the fragment commands (30_encoding.md R84). -/
theorem fragmentOk_exec_of_not_mem {i : Instr} {s t : State} (hi : i ∉ [Instr.fragCount, .fragSlice, .clear])
    (h : FragmentOk s) (ht : exec i s = .next t) : FragmentOk t := by
  obtain ⟨u, hu, -, -, -, -, hcnt, hslice⟩ := exec_registerWritesAllowed i s
  obtain rfl := exec_next_unique ht hu
  have hnoSlice : i ∉ [Instr.fragSlice, .clear] := fun hmem => hi (List.mem_cons_of_mem _ hmem)
  exact fragmentOk_congr h (exec_params ht) (of_not_not fun hne => hi (hcnt hne))
    (of_not_not fun hne => hnoSlice (hslice (.inl hne))) (of_not_not fun hne => hnoSlice (hslice (.inr hne)))

/-- An oversize message leaves the fragment registers; an index beyond the message still has the count recorded
(43_fragment.md R162, R163). -/
theorem fragmentOk_exec {i : Instr} {s t : State} (hlegal : s.params.Legal) (h : FragmentOk s)
    (ht : exec i s = .next t) : FragmentOk t := by
  cases i with
  | fragCount =>
    obtain ⟨-, hx⟩ | ⟨hn, hx⟩ := exec_fragCount s <;> obtain rfl := exec_next_unique ht hx
    · exact h
    · exact fragmentOk_recordCount hlegal h hn
  | fragSlice =>
    obtain ⟨-, hx⟩ | ⟨hn, -, hx⟩ | ⟨hn, hk, hx⟩ := exec_fragSlice s <;> obtain rfl := exec_next_unique ht hx
    · exact h
    · exact fragmentOk_recordCount hlegal h hn
    · exact fragmentOk_recordSlice (s := s.recordCount) hlegal (fragmentOk_recordCount hlegal h hn) hn hk
  | clear =>
    obtain rfl := exec_next_unique ht (exec_clear s)
    exact ⟨Nat.zero_le _, Nat.zero_le _, .inl rfl⟩
  | _ => exact fragmentOk_exec_of_not_mem (by decide) h ht

/-- Every outcome of every command is sound where it started from a sound state. -/
theorem exec_keepsSound {i : Instr} {s t : State} (h : Sound s) (ht : exec i s = .next t) : Sound t := by
  obtain ⟨hlegal, hmem, hstatus, hfrag⟩ := (sound_iff s).1 h
  exact (sound_iff t).2 ⟨legal_of_params_eq hlegal (exec_params ht), memOk_exec hmem ht, statusOk_exec hstatus ht,
    fragmentOk_exec hlegal hfrag ht⟩

/-! ### Accesses and inputs -/

theorem memOk_of_sound {s : State} (h : Sound s) : MemOk s := ⟨h.canonical, h.backed⟩

/-- What an access returns to the host is no part of the invariant (log 5). -/
theorem sound_answer {s : State} (h : Sound s) (r : Reply) : Sound (s.answer r) :=
  sound_of_sameSoundRegisters h ⟨rfl, rfl, rfl, rfl, rfl⟩ (memOk_congr (memOk_of_sound h) rfl rfl)

/-- Nor are the inputs still to come (log 3). -/
theorem sound_withPending {s : State} (h : Sound s) (rest : List Input) : Sound { s with pending := rest } :=
  sound_of_sameSoundRegisters h ⟨rfl, rfl, rfl, rfl, rfl⟩ (memOk_congr (memOk_of_sound h) rfl rfl)

/-- The host writes no register that the invariant speaks of (10_state.md R27, R36, R37). -/
theorem sound_writeReg {s : State} (h : Sound s) (r : Reg) (v : Word) : Sound (s.writeReg r v) := by
  have hregs : SameSoundRegisters s (s.writeReg r v) := by cases r <;> exact ⟨rfl, rfl, rfl, rfl, rfl⟩
  have hmem : (s.writeReg r v).mem = s.mem := by cases r <;> rfl
  exact sound_of_sameSoundRegisters h hregs (memOk_congr (memOk_of_sound h) hmem hregs.params)

theorem sound_write32 {s : State} (h : Sound s) (addr : Nat) (v : Word) : Sound (s.write32 addr v) := by
  unfold State.write32
  split
  · exact sound_writeReg h _ v
  · exact h

/-- A byte written lands in a buffer or nowhere (20_memory.md R53). -/
theorem sound_write8 {s : State} (h : Sound s) (addr : Nat) (b : Byte) : Sound (s.write8 addr b) := by
  unfold State.write8
  split_ifs
  · exact h
  · exact sound_of_sameSoundRegisters h (by constructor <;> simp) (memOk_setPb (memOk_of_sound h))
  · exact sound_of_sameSoundRegisters h (by constructor <;> simp) (memOk_setFb (memOk_of_sound h))

/-- A word that is no command writes `ERR` alone, with code 1 (30_encoding.md R82). -/
theorem sound_rejectWord {s : State} (h : Sound s) : Sound s.rejectWord := by
  obtain ⟨hlegal, hmem, hstatus, hfrag⟩ := (sound_iff s).1 h
  rw [State.rejectWord_eq, sound_iff]
  refine ⟨hlegal, hmem, ⟨?_, ?_⟩, hfrag⟩
  · rw [State.statusReserved_setErr]; exact hstatus.1
  · rw [State.err_setErr]; exact ErrCode.code_le _

theorem runCommand_keepsSound {w : Word} {s t : State} (h : Sound s) (ht : runCommand w s = .next t) : Sound t := by
  cases hdec : decode w with
  | ok i =>
    rw [runCommand_of_decode hdec] at ht
    exact exec_keepsSound h ht
  | error e =>
    rw [runCommand_of_illegal hdec] at ht
    cases ht
    exact sound_rejectWord h

theorem performAccess_keepsSound {a : Access} {s t : State} (h : Sound s) (ht : performAccess a s = .next t) :
    Sound t := by
  cases a with
  | read32 addr => cases ht; exact sound_answer h _
  | read8 addr => cases ht; exact sound_answer h _
  | write8 addr b =>
    cases ht
    split
    · exact sound_answer (sound_write8 h addr b) _
    · exact sound_answer h _
  | write32 addr v =>
    rw [performAccess_write32] at ht
    split at ht
    · exact runCommand_keepsSound (sound_answer h _) ht
    · cases ht; exact sound_answer (sound_write32 h addr v) _

theorem performInput_keepsSound {i : Input} {s t : State} (h : Sound s) (ht : performInput i s = .next t) :
    Sound t := by
  cases i with
  | access a => exact performAccess_keepsSound h ht
  | reset =>
    rw [performInput_reset] at ht
    cases ht
    exact sound_withPending (sound_resetOf h.legal) _

/-- Settles O14: the input is taken off the queue, which the invariant does not speak of, and performed. -/
theorem everyStepKeepsSound : Obligations.EveryStepKeepsSound := by
  intro s t h ht
  rw [step_of_legal h.legal] at ht
  cases hpend : s.pending with
  | nil =>
    rw [performNext_of_pending_nil hpend] at ht
    cases ht
    exact h
  | cons i rest =>
    rw [performNext_of_pending_cons hpend] at ht
    exact performInput_keepsSound (sound_withPending h rest) ht

end Sys2Proof.Machine
end
